-- ==== Sys2Proof/Word.lean ====
section
/-!
DEFINITION. The plain value types of FTE: words, bytes, ports, handles, the L3 tag and the TCP flag bits
(spec 10_state.md R23 to R28).
-/

namespace Sys2Proof

/-- One byte lane (20_memory.md R70). -/
abbrev Byte := BitVec 8

/-- A host register, a flow-view word, a hash value (10_state.md R40, 41_hasher.md R154). -/
abbrev Word := BitVec 32

/-- A flow's slot number (10_state.md R33). -/
abbrev Handle := BitVec 32

/-- A port as its 16-bit number (10_state.md R25). -/
abbrev Port := BitVec 16

/-- An opaque 64-bit capture timestamp (10_state.md R28). -/
abbrev Timestamp := BitVec 64

/-- A 64-bit counter that wraps (10_state.md R28). -/
abbrev Counter := BitVec 64

/-- The L3 protocol tag: two supported families and the two unsupported codes (10_state.md R23). -/
inductive L3Tag where
  | ipv4
  | ipv6
  | other2
  | other3
  deriving DecidableEq, Repr, Inhabited

/-- The four TCP flag bits on FTE's interface (10_state.md R27). -/
structure Flags where
  syn : Bool
  ack : Bool
  fin : Bool
  rst : Bool
  deriving DecidableEq, Repr, Inhabited

end Sys2Proof
end

