-- ==== Sys2Proof/Config.lean ====
section
/-!
DEFINITION. What an instance of FTE fixes: the parameters of spec 00_scope.md R6, and the free values that stand for
those the spec leaves OPEN (log entries 3 and 4).
-/

namespace Sys2Proof

/-- Which function an instance uses as FINAL_MIX (00_scope.md R6, 41_hasher.md R155), as plain data.
`oneAtATime` is the default the spec names (PRESUMED by the spec itself, from general knowledge; log entry 4);
`custom k` is the uninterpreted function `Config.finalMix k`, so what is proved of it holds of every function. -/
inductive FinalMix where
  | oneAtATime
  | custom (k : Nat)
  deriving DecidableEq, Repr, Inhabited

/-- The parameters of one instance, fixed for its life (00_scope.md R6). -/
structure Params where
  maxBuckets : Word
  maxFlows : Word
  mixShl : Fin 32
  mixShr : Fin 32
  finalMix : FinalMix
  deriving DecidableEq, Repr, Inhabited

/-- FREE VALUE (log entry 4): the open FINAL_MIX functions (00_scope.md R6, 92_eei_decisions.md D12). -/
opaque Config.finalMix : Nat → Word → Word

/-- FREE VALUE (log entry 3): MAX_BUCKETS before the constraint `1 <= MAX_BUCKETS` is applied (D14). -/
opaque Config.openMaxBuckets : Word

/-- FREE VALUE (log entry 3): MAX_FLOWS before the constraint `1 <= MAX_FLOWS` is applied (D15). -/
opaque Config.openMaxFlows : Word

end Sys2Proof
end

