-- ==== Sys2Proof/Syntax.lean ====
section
/-!
DEFINITION. The commands of FTE, one constructor per row of spec/opcode_table.json, with the command-word fields the
row reads (spec 30_encoding.md R93, R96). Every other operand comes from the latched operand registers (R92).
-/

namespace Sys2Proof

/-- The five host commands (30_encoding.md R93, R96). -/
inductive Instr where
  /-- CREATE, OP 0x1 (40_flow_index.md R110). -/
  | create
  /-- DESTROY, OP 0x2 (R112). -/
  | destroy
  /-- LOOKUP, OP 0x3 (R115). -/
  | lookup (l3 : L3Tag)
  /-- CREATE_FLOW, OP 0x4 (R120). -/
  | createFlow (l3 : L3Tag) (flags : Flags)
  /-- UPDATE_FLOW, OP 0x5 (R127). -/
  | updateFlow (flags : Flags)
  deriving DecidableEq, Repr, Inhabited

end Sys2Proof
end

