-- ==== Sys2Proof/WellFormed.lean ====
section
/-!
DEFINITION. Well-formedness: of a command as syntax, and of an instance's parameters (spec 30_encoding.md R91,
00_scope.md R6).
-/

namespace Sys2Proof

/-- Every command the types can write is encodable: the four L3 tags fill the two bits of L3 and the four Booleans the
four bits of FLAGS (30_encoding.md R91), so no constructor carries a check. An unsupported tag is a legal word that
faults when it is executed (R99), not an ill-formed one. -/
def Instr.wellFormed : Instr → Bool
  | .create => true
  | .destroy => true
  | .lookup _ => true
  | .createFlow _ _ => true
  | .updateFlow _ => true

/-- The constraints of 00_scope.md R6: both limits are at least 1 (the upper limit 2^32 - 1 and the shift ranges are
the types' own). -/
def Params.wellFormed (p : Params) : Bool :=
  p.maxBuckets != 0 && p.maxFlows != 0

end Sys2Proof
end

