-- ==== Sys2Proof/Decode.lean ====
section
/-!
DEFINITION. The command word of spec 30_encoding.md: its fields (R91), decoding, total on every word and rejecting by
name (R95, R96), the encoder (R97), and the codes of the L3 tag and of the TCP flags (10_state.md R23, R27).
-/

namespace Sys2Proof

/-- Why a command word is no command (30_encoding.md R95). -/
inductive Illegal where
  /-- RSV, bits 31:10, is not 0. -/
  | reservedBits
  /-- OP is 0 or one of 6 to 15. -/
  | unassignedOp
  /-- Fewer than four byte lanes: no whole word (R90 says a CMD write always carries one). -/
  | truncated
  deriving DecidableEq, Repr

/-- What a command word decodes to: `Command | Illegal` of 30_encoding.md R96. -/
inductive Decoded where
  | command (i : Instr)
  | illegal (why : Illegal)
  deriving DecidableEq, Repr

/-- The 2-bit code of an L3 tag (10_state.md R23). -/
def L3Tag.code : L3Tag → BitVec 2
  | .ipv4 => 0
  | .ipv6 => 1
  | .other2 => 2
  | .other3 => 3

/-- The L3 tag of a 2-bit code (10_state.md R23). -/
def L3Tag.ofCode (c : BitVec 2) : L3Tag :=
  match c.toNat with
  | 0 => .ipv4
  | 1 => .ipv6
  | 2 => .other2
  | _ => .other3

/-- The families the Hasher and the Matcher support (10_state.md R23, 41_hasher.md R161). -/
def L3Tag.supported : L3Tag → Bool
  | .ipv4 => true
  | .ipv6 => true
  | .other2 => false
  | .other3 => false

/-- FLAGS as the four bits cw[7:4]: SYN lowest, then ACK, FIN, RST (30_encoding.md R91). -/
def Flags.code (f : Flags) : BitVec 4 :=
  BitVec.ofBool f.rst ++ BitVec.ofBool f.fin ++ BitVec.ofBool f.ack ++ BitVec.ofBool f.syn

/-- The flags of the four bits cw[7:4] (30_encoding.md R92). -/
def Flags.ofCode (c : BitVec 4) : Flags :=
  { syn := c.getLsbD 0, ack := c.getLsbD 1, fin := c.getLsbD 2, rst := c.getLsbD 3 }

/-- OP, cw[3:0] (30_encoding.md R91). -/
def opField (cw : Word) : BitVec 4 := cw.extractLsb' 0 4

/-- FLAGS, cw[7:4] (30_encoding.md R91). -/
def flagsField (cw : Word) : BitVec 4 := cw.extractLsb' 4 4

/-- L3, cw[9:8] (30_encoding.md R91). -/
def l3Field (cw : Word) : BitVec 2 := cw.extractLsb' 8 2

/-- RSV, cw[31:10] (30_encoding.md R91). -/
def rsvField (cw : Word) : BitVec 22 := cw.extractLsb' 10 22

/-- Decoding, a total function on every 32-bit word (30_encoding.md R96). -/
def decode (cw : Word) : Decoded :=
  if rsvField cw ≠ 0 then .illegal .reservedBits
  else
    match (opField cw).toNat with
    | 1 => .command .create
    | 2 => .command .destroy
    | 3 => .command (.lookup (L3Tag.ofCode (l3Field cw)))
    | 4 => .command (.createFlow (L3Tag.ofCode (l3Field cw)) (Flags.ofCode (flagsField cw)))
    | 5 => .command (.updateFlow (Flags.ofCode (flagsField cw)))
    | _ => .illegal .unassignedOp

/-- The command word with the given OP, FLAGS and L3 and RSV = 0 (30_encoding.md R91). -/
def commandWord (op : BitVec 4) (flags : BitVec 4) (l3 : BitVec 2) : Word :=
  0#22 ++ l3 ++ flags ++ op

/-- OP of a command (30_encoding.md R93). -/
def Instr.op : Instr → BitVec 4
  | .create => 1
  | .destroy => 2
  | .lookup _ => 3
  | .createFlow _ _ => 4
  | .updateFlow _ => 5

/-- The assembled word of a command; an ignored field is 0 (30_encoding.md R97). -/
def encode (i : Instr) : Word :=
  match i with
  | .create => commandWord i.op 0 0
  | .destroy => commandWord i.op 0 0
  | .lookup l3 => commandWord i.op 0 l3.code
  | .createFlow l3 flags => commandWord i.op flags.code l3.code
  | .updateFlow flags => commandWord i.op flags.code 0

/-- The four byte lanes of a word, lane 0 (bits 7:0) first (20_memory.md R70). -/
def lanes (w : Word) : List Byte :=
  [w.extractLsb' 0 8, w.extractLsb' 8 8, w.extractLsb' 16 8, w.extractLsb' 24 8]

/-- Decode the first command word of a list of byte lanes and return the lanes after it; total on any bytes
(20_memory.md R70, 30_encoding.md R90, R96). -/
def decodeBytes : List Byte → Decoded × List Byte
  | b0 :: b1 :: b2 :: b3 :: rest => (decode (b3 ++ b2 ++ b1 ++ b0), rest)
  | short => (.illegal .truncated, short)

/-- The command the decoder reads from a table word: the word's lanes as the window holds them, given to the decoder. -/
def decodeTableWord (nbits w : Nat) : Option Instr :=
  if nbits ≤ 32 then
    match decodeBytes (lanes (BitVec.ofNat 32 (w % 2 ^ nbits))) with
    | (.command i, []) => some i
    | _ => none
  else none

end Sys2Proof
end

