-- ==== Sys2Proof/Machine/Instance.lean ====
section
/-!
DEFINITION. The parameters of the instance that `State.reset` describes (spec 00_scope.md R6): OPEN limits and an OPEN
FINAL_MIX, and the shifts the spec gives.
-/

namespace Sys2Proof.Machine

/-- An open limit under its constraint `1 <= limit` (00_scope.md R6): 0, the one excluded word, stands for 1, and every
allowed value stands for itself. -/
def atLeastOne (w : Word) : Word := if w = 0 then 1 else w

/-- The instance of `State.reset` (log entries 3 and 4): MAX_BUCKETS and MAX_FLOWS are any allowed values, FINAL_MIX any
function; MIX_SHL = 10 and MIX_SHR = 6 are the values 00_scope.md R6 gives (D43). -/
def instanceParams : Params :=
  { maxBuckets := atLeastOne Config.openMaxBuckets
    maxFlows := atLeastOne Config.openMaxFlows
    mixShl := 10
    mixShr := 6
    finalMix := .custom 0 }

end Sys2Proof.Machine
end

