-- ==== Sys2Proof/Machine/State.lean ====
section
/-!
DEFINITION. The state of one FTE instance as plain data (spec 10_state.md), the reasons a step can stop, and the state
after reset (R47).
-/

namespace Sys2Proof.Machine

/-- An address as a tagged variant (10_state.md R24). -/
inductive Addr where
  | v4 (a : Word)
  | v6 (w0 w1 w2 w3 : Word)
  deriving DecidableEq, Repr, Inhabited

/-- The TCP connection states (10_state.md R26). -/
inductive TcpState where
  | syn
  | synAck
  | established
  | fin
  | rst
  | close
  deriving DecidableEq, Repr, Inhabited

/-- A flow record (10_state.md R29). -/
structure FlowRecord where
  l3 : L3Tag
  src : Addr
  dst : Addr
  sport : Port
  dport : Port
  state : TcpState
  firstSeen : Timestamp
  lastSeen : Timestamp
  byteCount : Counter
  packetCount : Counter
  bucket : Word
  deriving DecidableEq, Repr, Inhabited

/-- The architectural fault codes (60_exceptions.md R215); `noFault` is code 0 (10_state.md R37). -/
inductive FaultCode where
  | noFault
  | illegalCommand
  | busyCollision
  | noIndex
  | indexExists
  | badBucketCount
  | unsupportedL3
  | createNotSyn
  | invalidHandle
  | updateInClose
  deriving DecidableEq, Repr, Inhabited

/-- The result codes (60_exceptions.md R212). -/
inductive ResultCode where
  | none
  | ok
  | notFound
  | noResource
  | fault
  | refused
  deriving DecidableEq, Repr, Inhabited

/-- The operand registers (10_state.md R40). -/
structure Operands where
  srcAddr0 : Word
  srcAddr1 : Word
  srcAddr2 : Word
  srcAddr3 : Word
  dstAddr0 : Word
  dstAddr1 : Word
  dstAddr2 : Word
  dstAddr3 : Word
  ports : Word
  wireLen : Word
  tsLo : Word
  tsHi : Word
  handleIn : Word
  nbucketsIn : Word
  deriving DecidableEq, Repr, Inhabited

/-- What an issue latches: the CMD word and every operand register (10_state.md R39, 70_reset_and_hazards.md R244). -/
structure Snapshot where
  cw : Word
  operands : Operands
  deriving DecidableEq, Repr, Inhabited

/-- One host access, with its width in bytes and its offset in the FTE window (00_scope.md R10), or the POLL loop
(30_encoding.md R98). Widths and offsets outside the interface can be written here and are refused (20_memory.md R71). -/
inductive HostOp where
  | read (width offset : Nat)
  | write (width offset : Nat) (v : Word)
  | poll
  deriving DecidableEq, Repr, Inhabited

/-- Whose move is next (10_state.md R20, 70_reset_and_hazards.md R240, R247; log entry 2). -/
inductive Turn where
  | host
  | engine
  | reset
  deriving DecidableEq, Repr, Inhabited

/-- The state of one instance. The last three fields are the model's own: the host's access sequence, the interleaving
and the values read (10_state.md R21, 20_memory.md R75, 70_reset_and_hazards.md R255; log entries 1 and 2). -/
structure State where
  /-- The instance's parameters (00_scope.md R6); no step changes them (log entry 3). -/
  params : Params
  /-- S.alive (10_state.md R31). -/
  alive : Bool
  /-- S.bucket_count (R31). -/
  bucketCount : Word
  /-- S.flow_count (R31). -/
  flowCount : Word
  /-- S.flows (R31): the occupied slots by rising slot number; an unlisted slot is `none` (log entry 9). -/
  flows : List (Nat × FlowRecord)
  /-- S.chains (R31): the non-empty chains by rising bucket, each head first; an unlisted bucket's chain is empty. -/
  chains : List (Nat × List Handle)
  /-- S.fault (R37). -/
  fault : FaultCode
  /-- S.result (R38). -/
  result : ResultCode
  /-- S.busy (R39). -/
  busy : Bool
  /-- S.latched (R39). -/
  latched : Option Snapshot
  /-- The operand registers (R40). -/
  operands : Operands
  /-- RESULT_HANDLE (R41). -/
  resultHandle : Word
  /-- RESULT_BUCKET (R41). -/
  resultBucket : Word
  /-- The host accesses still to be performed. -/
  program : List HostOp
  /-- The coming moves; when none is listed, the engine moves if it is busy, else the host. -/
  turns : List Turn
  /-- The values the host has read, newest first. -/
  reads : List Word
  deriving DecidableEq, Repr, Inhabited

/-- The reasons the model stops with a fault. FTE's own faults are latched in `State.fault` and never stop a step
(60_exceptions.md R223); these two say that the state is one the machine cannot be in (log entry 8). -/
inductive Fault where
  /-- Raised by a completion step of a state that is busy with nothing latched (10_state.md R39). Safe: no run from reset
  reaches such a state. -/
  | noSnapshot
  /-- Raised by UPDATE_FLOW when a handle below flow_count names an empty slot (10_state.md R31). Safe: no run from reset
  reaches such a state. -/
  | emptySlot
  deriving DecidableEq, Repr

/-- The reasons the model gives no step. -/
inductive Refusal where
  /-- Raised by `exec` for an instruction that has no meaning yet. Safe. -/
  | notModelled (mnemonic : String)
  /-- Raised by a host access that is not a 32-bit access at a multiple of 4 (20_memory.md R71: "A model refuses such an
  access and gives it no step"). Safe. -/
  | accessOutsideInterface (width offset : Nat)
  deriving DecidableEq, Repr

/-- NO_HANDLE (10_state.md R33). -/
def noHandle : Handle := 0xFFFFFFFF

/-- Every operand register at its reset value 0 (10_state.md R47). -/
def Operands.reset : Operands :=
  { srcAddr0 := 0, srcAddr1 := 0, srcAddr2 := 0, srcAddr3 := 0
    dstAddr0 := 0, dstAddr1 := 0, dstAddr2 := 0, dstAddr3 := 0
    ports := 0, wireLen := 0, tsLo := 0, tsHi := 0, handleIn := 0, nbucketsIn := 0 }

/-- The state after reset of an instance with parameters `p` (10_state.md R47), with no host access to perform. -/
def State.resetWith (p : Params) : State :=
  { params := p
    alive := false
    bucketCount := 0
    flowCount := 0
    flows := []
    chains := []
    fault := .noFault
    result := .none
    busy := false
    latched := none
    operands := Operands.reset
    resultHandle := noHandle
    resultBucket := 0
    program := []
    turns := []
    reads := [] }

/-- The state after reset (10_state.md R47), for any allowed parameters (log entries 3 and 4). -/
def State.reset : State := State.resetWith instanceParams

end Sys2Proof.Machine
end

