-- ==== Sys2Proof/Machine/Ops.lean ====
section
/-!
DEFINITION. The named operations over FTE's state: the flow store and the chains, the fault latch, the four ways a
command completes, issue, and reset (spec 10_state.md R31, 60_exceptions.md R213, R214, 70_reset_and_hazards.md R240,
R244 to R246).
-/

namespace Sys2Proof.Machine

/-! ### Sparse tables: a list of (key, value) pairs with rising keys -/

/-- The value a table lists for a key. -/
def slotGet {α : Type} : List (Nat × α) → Nat → Option α
  | [], _ => none
  | (k, v) :: m, a => if k = a then some v else slotGet m a

/-- The table with `a` listed as `v`. -/
def slotSet {α : Type} : List (Nat × α) → Nat → α → List (Nat × α)
  | [], a, v => [(a, v)]
  | (k, w) :: m, a, v =>
    if a < k then (a, v) :: (k, w) :: m
    else if k = a then (a, v) :: m
    else (k, w) :: slotSet m a v

/-- The table with `a` no longer listed. -/
def slotErase {α : Type} : List (Nat × α) → Nat → List (Nat × α)
  | [], _ => []
  | (k, w) :: m, a => if k = a then slotErase m a else (k, w) :: slotErase m a

/-- The canonical form of a table: keys strictly rising. -/
abbrev Slots.wf {α : Type} (m : List (Nat × α)) : Prop := (m.map Prod.fst).Pairwise (· < ·)

/-- The canonical form of the engine's storage (log entry 9): both tables rising, and no bucket listed with the empty
chain, which is what an unlisted bucket has. FTE has no byte memory (20_memory.md R60). -/
abbrev Memory.wf (s : State) : Prop :=
  Slots.wf s.flows ∧ Slots.wf s.chains ∧ ∀ c ∈ s.chains, c.2 ≠ []

/-- `S.flows[h]` (10_state.md R31). -/
def State.flowAt (s : State) (h : Nat) : Option FlowRecord := slotGet s.flows h

/-- `S.flows[h] <- some f` (10_state.md R31). -/
def State.setFlow (s : State) (h : Nat) (f : FlowRecord) : State :=
  { s with flows := slotSet s.flows h f }

/-- `S.chains[b]` (10_state.md R31); a bucket with no listed chain has the empty one. -/
def State.chainAt (s : State) (b : Nat) : List Handle := (slotGet s.chains b).getD []

/-- `S.chains[b] <- c` (10_state.md R31); writing the empty chain removes the entry. -/
def State.setChain (s : State) (b : Nat) (c : List Handle) : State :=
  { s with chains := if c = [] then slotErase s.chains b else slotSet s.chains b c }

/-- The record a handle names when the handle is valid: `S.alive` and `h < S.flow_count` (10_state.md R33). -/
def State.validFlow (s : State) (h : Nat) : Option FlowRecord :=
  if s.alive = true ∧ h < s.flowCount.toNat then s.flowAt h else none

/-- An index of `n` empty buckets, none of whose slots holds a flow (40_flow_index.md R110). -/
def State.newIndex (s : State) (n : Word) : State :=
  { s with alive := true, bucketCount := n, flowCount := 0, flows := [], chains := [] }

/-- No index (40_flow_index.md R112). -/
def State.noIndex (s : State) : State :=
  { s with alive := false, bucketCount := 0, flowCount := 0, flows := [], chains := [] }

/-- Insert flow `f` as handle `h` at the head of bucket `b` (40_flow_index.md R120). -/
def State.insertFlow (s : State) (h : Handle) (f : FlowRecord) (b : Word) : State :=
  { (s.setFlow h.toNat f).setChain b.toNat (h :: s.chainAt b.toNat) with flowCount := h + 1 }

/-- Move `h` to the head of bucket `b` (40_flow_index.md R127): `remove(L, h)` deletes its single occurrence
(00_scope.md R9). -/
def State.moveToFront (s : State) (h : Handle) (b : Word) : State :=
  s.setChain b.toNat (h :: (s.chainAt b.toNat).erase h)

/-- RESULT_HANDLE and RESULT_BUCKET written together (40_flow_index.md R114). -/
def State.setResults (s : State) (h : Handle) (b : Word) : State :=
  { s with resultHandle := h, resultBucket := b }

/-! ### Faults and completion -/

/-- `S.faulted` (10_state.md R37). -/
def State.faulted (s : State) : Bool := s.fault != .noFault

/-- First fault wins: a code is latched only when none is (60_exceptions.md R214, 70_reset_and_hazards.md R245). -/
def State.latchFault (s : State) (c : FaultCode) : State :=
  { s with fault := if s.fault = .noFault then c else s.fault }

/-- The end of a completion step with result code `r`: BUSY clears and the snapshot goes (70_reset_and_hazards.md
R246). -/
def State.finish (s : State) (r : ResultCode) : State :=
  { s with result := r, busy := false, latched := none }

/-- Fault entry, `raise Fault(c)` (60_exceptions.md R214): the code is latched, the result is FAULT, every other effect
of the command is absent. There is no return from a fault (R222); `State.resetEvent` alone clears it. -/
def State.raise (s : State) (c : FaultCode) : State := (s.latchFault c).finish .fault

/-- A command refused because the engine was already faulted (60_exceptions.md R213). -/
def State.refuse (s : State) : State := s.finish .refused

/-- The frame every command's meaning shares (70_reset_and_hazards.md R246, 60_exceptions.md R220 line "any"): the
latched snapshot is taken, a faulted engine refuses, else the command's own rule runs on the snapshot. -/
def State.command (s : State) (rule : Snapshot → Host.Outcome State Fault Refusal) :
    Host.Outcome State Fault Refusal :=
  match s.latched with
  | none => .fault .noSnapshot
  | some l => if s.faulted then .next s.refuse else rule l

/-- The completion step of an illegal word (30_encoding.md R95). -/
def State.completeIllegal (s : State) : Host.Outcome State Fault Refusal :=
  s.command fun _ => .next (s.raise .illegalCommand)

/-! ### Issue and reset -/

/-- BUSY with snapshot `l` in flight (10_state.md R39). -/
def State.latch (s : State) (l : Snapshot) : State := { s with busy := true, latched := some l }

/-- The issue step of CMD word `cw` (70_reset_and_hazards.md R244). -/
def State.issue (s : State) (cw : Word) : State := s.latch { cw := cw, operands := s.operands }

/-- The operand registers written (10_state.md R40). -/
def State.setOperands (s : State) (o : Operands) : State := { s with operands := o }

/-! ### The inputs of the run -/

/-- The moves to come (log entry 2). -/
def State.setTurns (s : State) (ts : List Turn) : State := { s with turns := ts }

/-- The host accesses to come (log entry 1). -/
def State.setProgram (s : State) (rest : List HostOp) : State := { s with program := rest }

/-- One more value read by the host (70_reset_and_hazards.md R255). -/
def State.addRead (s : State) (v : Word) : State := { s with reads := v :: s.reads }

/-- A reset event (70_reset_and_hazards.md R240, R241): every piece of the machine's state takes its reset value; the
parameters and the inputs of the run stay. -/
def State.resetEvent (s : State) : State :=
  { State.resetWith s.params with program := s.program, turns := s.turns, reads := s.reads }

end Sys2Proof.Machine
end

