-- ==== Sys2Proof/Machine/Flags.lean ====
section
/-!
DEFINITION. The codes of the state, result and fault fields and the STATUS register (spec 10_state.md R26,
60_exceptions.md R212, R215, 20_memory.md R63). FTE has no condition codes (10_state.md R44).
-/

namespace Sys2Proof.Machine

/-- The 3-bit state code (10_state.md R26). -/
def TcpState.code : TcpState → BitVec 3
  | .syn => 0
  | .synAck => 1
  | .established => 2
  | .fin => 3
  | .rst => 4
  | .close => 5

/-- The 4-bit result code (60_exceptions.md R212). -/
def ResultCode.code : ResultCode → BitVec 4
  | .none => 0
  | .ok => 1
  | .notFound => 2
  | .noResource => 3
  | .fault => 4
  | .refused => 5

/-- The 8-bit fault code (60_exceptions.md R215). -/
def FaultCode.code : FaultCode → BitVec 8
  | .noFault => 0
  | .illegalCommand => 1
  | .busyCollision => 2
  | .noIndex => 3
  | .indexExists => 4
  | .badBucketCount => 5
  | .unsupportedL3 => 6
  | .createNotSyn => 7
  | .invalidHandle => 8
  | .updateInClose => 9

/-- STATUS (20_memory.md R63), from bit 31 down: reserved, FAULT_CODE, RESULT, reserved, INDEX_ALIVE, FAULTED, BUSY. -/
def State.status (s : State) : Word :=
  0#16 ++ s.fault.code ++ s.result.code ++ 0#1 ++ BitVec.ofBool s.alive ++ BitVec.ofBool s.faulted
    ++ BitVec.ofBool s.busy

end Sys2Proof.Machine
end

