-- ==== Sys2Proof/Machine/Operands.lean ====
section
/-!
DEFINITION. Operand assembly: the packet descriptor of spec 10_state.md R40 from the operand registers, and the packing
of addresses into words (R24).
-/

namespace Sys2Proof.Machine

/-- A 5-tuple (00_scope.md R13): all of a packet that the Hasher and the Matcher read (42_matcher.md R177). -/
structure FiveTuple where
  l3 : L3Tag
  src : Addr
  dst : Addr
  sport : Port
  dport : Port
  deriving DecidableEq, Repr

/-- Source and destination exchanged, address and port together (42_matcher.md R174). -/
def FiveTuple.reverse (t : FiveTuple) : FiveTuple :=
  { l3 := t.l3, src := t.dst, dst := t.src, sport := t.dport, dport := t.sport }

/-- The 5-tuple of a flow record (10_state.md R29). -/
def FlowRecord.tuple (f : FlowRecord) : FiveTuple :=
  { l3 := f.l3, src := f.src, dst := f.dst, sport := f.sport, dport := f.dport }

/-- An address from its four registers: word 0 alone for IPv4, all four otherwise (10_state.md R40). -/
def addrOf (l3 : L3Tag) (w0 w1 w2 w3 : Word) : Addr :=
  if l3 = .ipv4 then .v4 w0 else .v6 w0 w1 w2 w3

/-- `PORTS[15:0]`, the source port (20_memory.md R64). -/
def Operands.sport (o : Operands) : Port := o.ports.extractLsb' 0 16

/-- `PORTS[31:16]`, the destination port (20_memory.md R64). -/
def Operands.dport (o : Operands) : Port := o.ports.extractLsb' 16 16

/-- The packet's 5-tuple (10_state.md R40). -/
def Operands.tuple (o : Operands) (l3 : L3Tag) : FiveTuple :=
  { l3 := l3
    src := addrOf l3 o.srcAddr0 o.srcAddr1 o.srcAddr2 o.srcAddr3
    dst := addrOf l3 o.dstAddr0 o.dstAddr1 o.dstAddr2 o.dstAddr3
    sport := o.sport
    dport := o.dport }

/-- `pkt.ts = {TS_HI, TS_LO}` (10_state.md R40). -/
def Operands.timestamp (o : Operands) : Timestamp := o.tsHi ++ o.tsLo

/-- `zext_64(pkt.len)` (40_flow_index.md R120, R127). -/
def Operands.length (o : Operands) : Counter := o.wireLen.setWidth 64

/-- A tag's family is the family of the address's variant (10_state.md R29: "Addr, same tag as `l3`"). -/
def Addr.hasTag : Addr → L3Tag → Bool
  | .v4 _, l3 => l3 == .ipv4
  | .v6 _ _ _ _, l3 => l3 == .ipv6

/-- Four address bytes in network order as a word, the first in bits 31:24 (10_state.md R24); a dotted quad a.b.c.d is
`networkWord a b c d`. -/
def networkWord (a b c d : Byte) : Word := a ++ b ++ c ++ d

end Sys2Proof.Machine
end

