-- ==== Sys2Proof/Machine/Window.lean ====
section
/-!
DEFINITION. The FTE window: the register block, the flow view, and what a host read or write of a word does (spec
20_memory.md R60 to R73). Addresses are offsets from WINDOW_BASE (R60, log entry 7).
-/

namespace Sys2Proof.Machine

/-- The registers of the register block (20_memory.md R61). -/
inductive Reg where
  | cmd
  | status
  | resultHandle
  | resultBucket
  | srcAddr0
  | srcAddr1
  | srcAddr2
  | srcAddr3
  | dstAddr0
  | dstAddr1
  | dstAddr2
  | dstAddr3
  | ports
  | wireLen
  | tsLo
  | tsHi
  | handleIn
  | nbucketsIn
  | flowCount
  | bucketCount
  | maxFlowsR
  | maxBucketsR
  | id
  deriving DecidableEq, Repr

/-- Every register of 20_memory.md R61, in the map's order. -/
def registerList : List Reg :=
  [.cmd, .status, .resultHandle, .resultBucket, .srcAddr0, .srcAddr1, .srcAddr2, .srcAddr3,
    .dstAddr0, .dstAddr1, .dstAddr2, .dstAddr3, .ports, .wireLen, .tsLo, .tsHi, .handleIn,
    .nbucketsIn, .flowCount, .bucketCount, .maxFlowsR, .maxBucketsR, .id]

/-- The offset of a register (20_memory.md R61). -/
def regOffset : Reg → Nat
  | .cmd => 0x000
  | .status => 0x004
  | .resultHandle => 0x008
  | .resultBucket => 0x00C
  | .srcAddr0 => 0x010
  | .srcAddr1 => 0x014
  | .srcAddr2 => 0x018
  | .srcAddr3 => 0x01C
  | .dstAddr0 => 0x020
  | .dstAddr1 => 0x024
  | .dstAddr2 => 0x028
  | .dstAddr3 => 0x02C
  | .ports => 0x030
  | .wireLen => 0x034
  | .tsLo => 0x038
  | .tsHi => 0x03C
  | .handleIn => 0x040
  | .nbucketsIn => 0x044
  | .flowCount => 0x048
  | .bucketCount => 0x04C
  | .maxFlowsR => 0x050
  | .maxBucketsR => 0x054
  | .id => 0x058

/-- The register at an offset; none at a reserved offset or in the flow view (20_memory.md R61, R72). -/
def regAt (offset : Nat) : Option Reg := registerList.find? fun r => regOffset r == offset

/-- The words of a flow-view record (20_memory.md R68). -/
inductive ViewField where
  | metaInfo
  | ports
  | src0
  | src1
  | src2
  | src3
  | dst0
  | dst1
  | dst2
  | dst3
  | firstSeenLo
  | firstSeenHi
  | lastSeenLo
  | lastSeenHi
  | byteCountLo
  | byteCountHi
  | packetCountLo
  | packetCountHi
  | bucket
  deriving DecidableEq, Repr

/-- Every word of a flow-view record that is not reserved (20_memory.md R68). -/
def viewFieldList : List ViewField :=
  [.metaInfo, .ports, .src0, .src1, .src2, .src3, .dst0, .dst1, .dst2, .dst3, .firstSeenLo, .firstSeenHi,
    .lastSeenLo, .lastSeenHi, .byteCountLo, .byteCountHi, .packetCountLo, .packetCountHi, .bucket]

/-- The offset of a word in a flow-view record (20_memory.md R68). -/
def viewFieldOffset : ViewField → Nat
  | .metaInfo => 0x00
  | .ports => 0x04
  | .src0 => 0x08
  | .src1 => 0x0C
  | .src2 => 0x10
  | .src3 => 0x14
  | .dst0 => 0x18
  | .dst1 => 0x1C
  | .dst2 => 0x20
  | .dst3 => 0x24
  | .firstSeenLo => 0x28
  | .firstSeenHi => 0x2C
  | .lastSeenLo => 0x30
  | .lastSeenHi => 0x34
  | .byteCountLo => 0x38
  | .byteCountHi => 0x3C
  | .packetCountLo => 0x40
  | .packetCountHi => 0x44
  | .bucket => 0x48

/-- The word at an offset in a flow-view record; none at a reserved word (20_memory.md R68). -/
def viewFieldAt (offset : Nat) : Option ViewField := viewFieldList.find? fun x => viewFieldOffset x == offset

/-- Word `i` of an address in the flow view: a V4 address is word 0 and its words 1 to 3 read 0 (20_memory.md R68). -/
def addrWord : Addr → Nat → Word
  | .v4 a, 0 => a
  | .v4 _, _ => 0
  | .v6 w0 _ _ _, 0 => w0
  | .v6 _ w1 _ _, 1 => w1
  | .v6 _ _ w2 _, 2 => w2
  | .v6 _ _ _ w3, _ => w3

/-- Bits 31:0 of a 64-bit value (20_memory.md R70). -/
def loWord (v : BitVec 64) : Word := v.extractLsb' 0 32

/-- Bits 63:32 of a 64-bit value (20_memory.md R70). -/
def hiWord (v : BitVec 64) : Word := v.extractLsb' 32 32

/-- META of a valid handle's record (20_memory.md R68), from bit 31 down: 0, STATE, 0, L3, 0, VALID = 1. -/
def metaWord (f : FlowRecord) : Word :=
  0#21 ++ f.state.code ++ 0#2 ++ f.l3.code ++ 0#3 ++ 1#1

/-- A word of the record of flow `f` (20_memory.md R68). -/
def fieldWord (f : FlowRecord) : ViewField → Word
  | .metaInfo => metaWord f
  | .ports => f.dport ++ f.sport
  | .src0 => addrWord f.src 0
  | .src1 => addrWord f.src 1
  | .src2 => addrWord f.src 2
  | .src3 => addrWord f.src 3
  | .dst0 => addrWord f.dst 0
  | .dst1 => addrWord f.dst 1
  | .dst2 => addrWord f.dst 2
  | .dst3 => addrWord f.dst 3
  | .firstSeenLo => loWord f.firstSeen
  | .firstSeenHi => hiWord f.firstSeen
  | .lastSeenLo => loWord f.lastSeen
  | .lastSeenHi => hiWord f.lastSeen
  | .byteCountLo => loWord f.byteCount
  | .byteCountHi => hiWord f.byteCount
  | .packetCountLo => loWord f.packetCount
  | .packetCountHi => hiWord f.packetCount
  | .bucket => f.bucket

/-- The first offset of the flow view (20_memory.md R60). -/
def viewBase : Nat := 0x1000

/-- The bytes of one flow-view record (20_memory.md R67). -/
def recordBytes : Nat := 0x80

/-- The offset of slot `h`'s record (20_memory.md R67). -/
def recordOffset (h : Nat) : Nat := viewBase + h * recordBytes

/-- WINDOW_BYTES (20_memory.md R60). -/
def State.windowBytes (s : State) : Nat := viewBase + s.params.maxFlows.toNat * recordBytes

/-- ID (20_memory.md R66). -/
def idValue : Word := 0x464C5701

/-- What a register reads as (20_memory.md R61, 10_state.md R43); CMD is write-only and reads 0. -/
def State.regValue (s : State) : Reg → Word
  | .cmd => 0
  | .status => s.status
  | .resultHandle => s.resultHandle
  | .resultBucket => s.resultBucket
  | .srcAddr0 => s.operands.srcAddr0
  | .srcAddr1 => s.operands.srcAddr1
  | .srcAddr2 => s.operands.srcAddr2
  | .srcAddr3 => s.operands.srcAddr3
  | .dstAddr0 => s.operands.dstAddr0
  | .dstAddr1 => s.operands.dstAddr1
  | .dstAddr2 => s.operands.dstAddr2
  | .dstAddr3 => s.operands.dstAddr3
  | .ports => s.operands.ports
  | .wireLen => s.operands.wireLen
  | .tsLo => s.operands.tsLo
  | .tsHi => s.operands.tsHi
  | .handleIn => s.operands.handleIn
  | .nbucketsIn => s.operands.nbucketsIn
  | .flowCount => s.flowCount
  | .bucketCount => s.bucketCount
  | .maxFlowsR => s.params.maxFlows
  | .maxBucketsR => s.params.maxBuckets
  | .id => idValue

/-- The flow view at offset `o` of slot `h`'s record: 0 for a handle that is not valid (20_memory.md R69) and for a
reserved word (R68). -/
def State.viewWord (s : State) (h o : Nat) : Word :=
  match s.validFlow h with
  | none => 0
  | some f =>
    match viewFieldAt o with
    | none => 0
    | some x => fieldWord f x

/-- A host read of the word at an aligned offset (20_memory.md R61, R67 to R69, R72). -/
def State.readWord (s : State) (offset : Nat) : Word :=
  if offset < viewBase then
    match regAt offset with
    | none => 0
    | some r => s.regValue r
  else if offset < s.windowBytes then
    s.viewWord ((offset - viewBase) / recordBytes) ((offset - viewBase) % recordBytes)
  else 0

/-- A host write to CMD: an issue, or a collision while BUSY (70_reset_and_hazards.md R244, R245). -/
def State.writeCmd (s : State) (v : Word) : State :=
  if s.busy then s.latchFault .busyCollision else s.issue v

/-- The operand registers after a write of `v` to a register; only the RW registers change (20_memory.md R61). -/
def Operands.write (o : Operands) (v : Word) : Reg → Operands
  | .srcAddr0 => { o with srcAddr0 := v }
  | .srcAddr1 => { o with srcAddr1 := v }
  | .srcAddr2 => { o with srcAddr2 := v }
  | .srcAddr3 => { o with srcAddr3 := v }
  | .dstAddr0 => { o with dstAddr0 := v }
  | .dstAddr1 => { o with dstAddr1 := v }
  | .dstAddr2 => { o with dstAddr2 := v }
  | .dstAddr3 => { o with dstAddr3 := v }
  | .ports => { o with ports := v }
  | .wireLen => { o with wireLen := v }
  | .tsLo => { o with tsLo := v }
  | .tsHi => { o with tsHi := v }
  | .handleIn => { o with handleIn := v }
  | .nbucketsIn => { o with nbucketsIn := v }
  | .cmd => o
  | .status => o
  | .resultHandle => o
  | .resultBucket => o
  | .flowCount => o
  | .bucketCount => o
  | .maxFlowsR => o
  | .maxBucketsR => o
  | .id => o

/-- A host write of a register (20_memory.md R61, R65, R73). -/
def State.writeReg (s : State) (v : Word) (r : Reg) : State :=
  if r = .cmd then s.writeCmd v else s.setOperands (s.operands.write v r)

/-- A host write of the word at an aligned offset; reserved offsets, the flow view and offsets beyond the window ignore
it (20_memory.md R67, R72). -/
def State.writeWord (s : State) (offset : Nat) (v : Word) : State :=
  match regAt offset with
  | none => s
  | some r => s.writeReg v r

/-- The only host access: 32 bits at a multiple of 4 (20_memory.md R71). -/
def accessInInterface (width offset : Nat) : Bool := width == 4 && offset % 4 == 0

end Sys2Proof.Machine
end

