-- ==== Sys2Proof/Machine/Agents.lean ====
section
/-!
DEFINITION. Who moves next and what the host and the platform do (spec 10_state.md R20, 20_memory.md R75,
70_reset_and_hazards.md R240, R246, R247; log entries 1, 2 and 5). `Step.lean` runs the command a move names.
-/

namespace Sys2Proof.Machine

/-- A move: a legal command completes in the given state, or the move's outcome is already there. -/
inductive Move where
  | command (i : Instr) (s : State)
  | done (o : Host.Outcome State Fault Refusal)

/-- The engine's move is next and `ts` are the turns left after it: its turn is listed, or no turn is (log entry 2). A
busy engine then takes its completion step. -/
def State.EngineNext (s : State) (ts : List Turn) : Prop :=
  (s.turns = [] ∧ ts = []) ∨ s.turns = .engine :: ts

/-- The host's move is next and `ts` are the turns left after it: its turn is listed, or no turn is and the engine is
idle (log entry 2). -/
def State.HostNext (s : State) (ts : List Turn) : Prop :=
  (s.turns = [] ∧ ts = [] ∧ s.busy = false) ∨ s.turns = .host :: ts

/-- The completion step of the latched word (70_reset_and_hazards.md R246): a legal word names its command, an illegal
one faults (30_encoding.md R95). -/
def engineMove (s : State) : Move :=
  match s.latched with
  | none => .done (.fault .noSnapshot)
  | some l =>
    match decode l.cw with
    | .command i => .command i s
    | .illegal _ => .done s.completeIllegal

/-- The host's next access (20_memory.md R71 to R73, 30_encoding.md R98). POLL reads STATUS and stays until bit 0 of the
value read is 0. With no access left the host does nothing (log entry 5). -/
def hostMove (s : State) : Host.Outcome State Fault Refusal :=
  match s.program with
  | [] => .next s
  | .read width offset :: rest =>
    if accessInInterface width offset then .next ((s.setProgram rest).addRead (s.readWord offset))
    else .refused (.accessOutsideInterface width offset)
  | .write width offset v :: rest =>
    if accessInInterface width offset then .next ((s.setProgram rest).writeWord offset v)
    else .refused (.accessOutsideInterface width offset)
  | .poll :: rest =>
    let v := s.readWord (regOffset .status)
    .next ((s.setProgram (if v.getLsbD 0 then s.program else rest)).addRead v)

/-- The next move. A listed turn is used up; an engine turn while not BUSY is no step of the engine (10_state.md R20).
With no turn listed the engine completes first, so an issued command always completes (70_reset_and_hazards.md R247). -/
def nextMove (s : State) : Move :=
  match s.turns with
  | [] => if s.busy then engineMove s else .done (hostMove s)
  | .engine :: ts =>
    if s.busy then engineMove (s.setTurns ts) else .done (.next (s.setTurns ts))
  | .host :: ts => .done (hostMove (s.setTurns ts))
  | .reset :: ts => .done (.next (s.setTurns ts).resetEvent)

end Sys2Proof.Machine
end

