-- ==== Sys2Proof/Machine/Hasher.lean ====
section
/-!
DEFINITION. The Hasher, a pure function from a 5-tuple and a bucket count to a bucket index (spec 41_hasher.md).
-/

namespace Sys2Proof.Machine

/-- The address value (41_hasher.md R151): hashing dispatches on the address's own tag (10_state.md R24). -/
def addrValue : Addr → Word
  | .v4 x => x
  | .v6 w0 w1 w2 w3 => w0 + w1 + w2 + w3

/-- The six bytes of a side, most significant first, address before port (41_hasher.md R152). -/
def sideBytes (v : Word) (p : Port) : List Byte :=
  [v.extractLsb' 24 8, v.extractLsb' 16 8, v.extractLsb' 8 8, v.extractLsb' 0 8,
    p.extractLsb' 8 8, p.extractLsb' 0 8]

/-- The one-byte mix step (41_hasher.md R153). -/
def mix (p : Params) (h : Word) (x : Byte) : Word :=
  let h1 := h + x.setWidth 32
  let h2 := h1 + (h1 <<< p.mixShl.val)
  h2 ^^^ (h2 >>> p.mixShr.val)

/-- The 32-bit partial hash of one side, from 0 (41_hasher.md R154). -/
def sideHash (p : Params) (v : Word) (port : Port) : Word :=
  (sideBytes v port).foldl (mix p) 0

/-- The default final avalanche (41_hasher.md R155). -/
def finalMixDefault (h : Word) : Word :=
  let h1 := h + (h <<< 3)
  let h2 := h1 ^^^ (h1 >>> 11)
  h2 + (h2 <<< 15)

/-- FINAL_MIX of an instance (41_hasher.md R155): the default by name, or an open function (log entry 4). -/
def applyFinalMix : FinalMix → Word → Word
  | .oneAtATime, h => finalMixDefault h
  | .custom k, h => Config.finalMix k h

/-- The sum of the two partial hashes (41_hasher.md R156). -/
def hashSum (p : Params) (t : FiveTuple) : Word :=
  sideHash p (addrValue t.src) t.sport + sideHash p (addrValue t.dst) t.dport

/-- The bucket index (41_hasher.md R157). For `n = 0`, which no live index has (40_flow_index.md R110), `%` leaves the
mixed sum unreduced (log entry 10). -/
def bucketOf (p : Params) (t : FiveTuple) (n : Word) : Word :=
  applyFinalMix p.finalMix (hashSum p t) % n

end Sys2Proof.Machine
end

