-- ==== Sys2Proof/Machine/Matcher.lean ====
section
/-!
DEFINITION. The Matcher, the bidirectional match predicate (spec 42_matcher.md).
-/

namespace Sys2Proof.Machine

/-- Address equality by tag (42_matcher.md R171). -/
def addrEq : Addr → Addr → Bool
  | .v4 a, .v4 b => a == b
  | .v6 a0 a1 a2 a3, .v6 b0 b1 b2 b3 => a0 == b0 && a1 == b1 && a2 == b2 && a3 == b3
  | .v4 _, .v6 _ _ _ _ => false
  | .v6 _ _ _ _, .v4 _ => false

/-- Clause (a) of 42_matcher.md R172: both addresses and both ports equal, in the packet's direction. -/
def sameDirection (f : FlowRecord) (t : FiveTuple) : Bool :=
  addrEq f.src t.src && addrEq f.dst t.dst && f.sport == t.sport && f.dport == t.dport

/-- The match predicate (42_matcher.md R172): same L3 tag, and forward (a) or reverse (b). -/
def flowMatches (f : FlowRecord) (t : FiveTuple) : Bool :=
  f.l3 == t.l3 && (sameDirection f t || sameDirection f t.reverse)

/-- Does the flow in slot `h` match? An empty slot, which no chain of the machine names (10_state.md R32), does not. -/
def State.slotMatches (s : State) (t : FiveTuple) (h : Handle) : Bool :=
  match s.flowAt h.toNat with
  | none => false
  | some f => flowMatches f t

end Sys2Proof.Machine
end

