-- ==== Sys2Proof/Machine/TcpStateMachine.lean ====
section
/-!
DEFINITION. The TCP connection-state machine (spec 43_tcp_state_machine.md).
-/

namespace Sys2Proof.Machine

/-- The transition function (43_tcp_state_machine.md R188); `none` is `Fault(UPDATE_IN_CLOSE)` (R194). -/
def nextState (st : TcpState) (f : Flags) : Option TcpState :=
  match st with
  | .syn =>
    if f.syn && f.ack then some .synAck
    else if f.fin then some .fin
    else if f.rst then some .rst
    else some .established
  | .synAck => if f.fin then some .fin else if f.rst then some .rst else some .established
  | .established => if f.fin then some .fin else if f.rst then some .rst else some .established
  | .fin => if f.rst then some .rst else some .fin
  | .rst => some .rst
  | .close => none

/-- The state of a created flow (40_flow_index.md R121). -/
def initialState (f : Flags) : TcpState := if f.ack then .synAck else .syn

/-- The place of a state in the order SYN < SYN_ACK < ESTABLISHED < FIN < RST (43_tcp_state_machine.md R196); CLOSE
stands apart, above. -/
def TcpState.rank : TcpState → Nat
  | .syn => 0
  | .synAck => 1
  | .established => 2
  | .fin => 3
  | .rst => 4
  | .close => 5

end Sys2Proof.Machine
end

