-- ==== Sys2Proof/Machine/FlowIndex.lean ====
section
/-!
DEFINITION. The meanings of the five commands: each is the completion step of that command (spec 40_flow_index.md,
70_reset_and_hazards.md R246), with the check order of 60_exceptions.md R220.
-/

namespace Sys2Proof.Machine

/-- CREATE (40_flow_index.md R110). -/
def execCreate (s : State) : Host.Outcome State Fault Refusal :=
  s.command fun l =>
    if s.alive then .next (s.raise .indexExists)
    else if l.operands.nbucketsIn = 0 then .next (s.raise .badBucketCount)
    else if s.params.maxBuckets < l.operands.nbucketsIn then .next (s.finish .noResource)
    else .next ((s.newIndex l.operands.nbucketsIn).finish .ok)

/-- DESTROY (40_flow_index.md R112). -/
def execDestroy (s : State) : Host.Outcome State Fault Refusal :=
  s.command fun _ =>
    if !s.alive then .next (s.raise .noIndex)
    else .next (s.noIndex.finish .ok)

/-- LOOKUP (40_flow_index.md R115). -/
def execLookup (l3 : L3Tag) (s : State) : Host.Outcome State Fault Refusal :=
  s.command fun l =>
    if !s.alive then .next (s.raise .noIndex)
    else if !l3.supported then .next (s.raise .unsupportedL3)
    else
      let t := l.operands.tuple l3
      let b := bucketOf s.params t s.bucketCount
      match (s.chainAt b.toNat).find? (s.slotMatches t) with
      | some h => .next ((s.setResults h b).finish .ok)
      | none => .next ((s.setResults noHandle b).finish .notFound)

/-- The record of a flow created from tuple `t` in bucket `b` (40_flow_index.md R120, R121). -/
def newRecord (t : FiveTuple) (flags : Flags) (o : Operands) (b : Word) : FlowRecord :=
  { l3 := t.l3, src := t.src, dst := t.dst, sport := t.sport, dport := t.dport
    state := initialState flags
    firstSeen := o.timestamp
    lastSeen := o.timestamp
    byteCount := o.length
    packetCount := 1
    bucket := b }

/-- CREATE_FLOW (40_flow_index.md R120). -/
def execCreateFlow (l3 : L3Tag) (flags : Flags) (s : State) : Host.Outcome State Fault Refusal :=
  s.command fun l =>
    if !s.alive then .next (s.raise .noIndex)
    else if !l3.supported then .next (s.raise .unsupportedL3)
    else if !flags.syn then .next (s.raise .createNotSyn)
    else
      let t := l.operands.tuple l3
      let b := bucketOf s.params t s.bucketCount
      if s.flowCount = s.params.maxFlows then .next ((s.setResults noHandle b).finish .noResource)
      else
        .next (((s.insertFlow s.flowCount (newRecord t flags l.operands b) b).setResults s.flowCount b).finish .ok)

/-- A record after an update by a packet that takes it to state `st` (40_flow_index.md R127). -/
def FlowRecord.updated (f : FlowRecord) (st : TcpState) (o : Operands) : FlowRecord :=
  { f with
    state := st
    lastSeen := o.timestamp
    byteCount := f.byteCount + o.length
    packetCount := f.packetCount + 1 }

/-- UPDATE_FLOW (40_flow_index.md R127). -/
def execUpdateFlow (flags : Flags) (s : State) : Host.Outcome State Fault Refusal :=
  s.command fun l =>
    let h := l.operands.handleIn
    if !s.alive then .next (s.raise .noIndex)
    else if s.flowCount ≤ h then .next (s.raise .invalidHandle)
    else
      match s.flowAt h.toNat with
      | none => .fault .emptySlot
      | some f =>
        match nextState f.state flags with
        | none => .next (s.raise .updateInClose)
        | some st =>
          .next (((s.moveToFront h f.bucket).setFlow h.toNat (f.updated st l.operands)).finish .ok)

end Sys2Proof.Machine
end

