-- ==== Sys2Proof/Machine/Dispatch.lean ====
section
/-!
DEFINITION. What a command does: one arm per constructor of Instr (spec 70_reset_and_hazards.md R246).
-/

namespace Sys2Proof.Machine

def exec (i : Instr) (s : State) : Host.Outcome State Fault Refusal :=
  match i with
  | .create => Sys2Proof.Machine.execCreate s
  | .destroy => Sys2Proof.Machine.execDestroy s
  | .lookup l3 => Sys2Proof.Machine.execLookup l3 s
  | .createFlow l3 flags => Sys2Proof.Machine.execCreateFlow l3 flags s
  | .updateFlow flags => Sys2Proof.Machine.execUpdateFlow flags s

end Sys2Proof.Machine
end

