-- ==== Sys2Proof/Machine/Step.lean ====
section
/-!
DEFINITION. One step of the machine, and placing a command word where the next step completes it (spec
70_reset_and_hazards.md R244, R246; log entry 1).
-/

namespace Sys2Proof.Machine

/-- One step: the next move; the command it names runs (70_reset_and_hazards.md R246). -/
def step (s : State) : Host.Outcome State Fault Refusal :=
  match nextMove s with
  | .command i t => exec i t
  | .done o => o

/-- `s` with a command word issued, as a CMD write would issue it (70_reset_and_hazards.md R244), and the engine's turn
next, so that the next step is its completion. -/
def State.withFetchWord (s : State) (nbits w : Nat) : State :=
  (s.issue (BitVec.ofNat 32 (w % 2 ^ nbits))).setTurns (.engine :: s.turns)

end Sys2Proof.Machine
end

