-- ==== Sys2Proof/Safety.lean ====
section
/-!
DEFINITION. The invariant of the machine (spec 10_state.md R29, R31, R32, R36, R39), the end of a run and what is
observed of it (70_reset_and_hazards.md R255), failed runs (60_exceptions.md R223), and the words claims are stated in:
the touch order (R35), the check order (60_exceptions.md R220), the updates of a run (40_flow_index.md R131).
-/

namespace Sys2Proof.Machine

/-- What a stored record satisfies (10_state.md R23, R29, R36): a supported tag, both addresses of that tag, a state
other than CLOSE, and the bucket its 5-tuple hashes to. -/
structure FlowRecord.Ok (p : Params) (n : Word) (f : FlowRecord) : Prop where
  supported : f.l3.supported = true
  src_tag : f.src.hasTag f.l3 = true
  dst_tag : f.dst.hasTag f.l3 = true
  not_close : f.state ≠ .close
  bucket_eq : f.bucket = bucketOf p f.tuple n

/-- The invariant of a live index or of none (10_state.md R31, R32). -/
structure State.IndexInv (s : State) : Prop where
  dead : s.alive = false → s.bucketCount = 0 ∧ s.flowCount = 0
  live : s.alive = true → s.bucketCount ≠ 0 ∧ s.bucketCount ≤ s.params.maxBuckets
  count_le : s.flowCount ≤ s.params.maxFlows
  slots : ∀ h, (s.flowAt h).isSome = true ↔ h < s.flowCount.toNat
  records : ∀ h f, s.flowAt h = some f → f.Ok s.params s.bucketCount
  nodup : ∀ b, (s.chainAt b).Nodup
  chain_iff : ∀ b (h : Handle), h ∈ s.chainAt b ↔ ∃ f, s.flowAt h.toNat = some f ∧ f.bucket.toNat = b

/-- The invariant of the machine: allowed parameters, canonical storage, a snapshot exactly while BUSY, and the index
invariant. -/
structure State.Inv (s : State) : Prop where
  params_ok : s.params.wellFormed = true
  memory_wf : Memory.wf s
  busy_iff : s.busy = s.latched.isSome
  index : s.IndexInv

/-- The end of a run (70_reset_and_hazards.md R255): no access left and not BUSY. -/
def State.ended (s : State) : Bool := s.program.isEmpty && !s.busy

/-- A failed run: it ended faulted (60_exceptions.md R223, 70_reset_and_hazards.md R255). -/
def State.failed (s : State) : Bool := s.ended && s.faulted

/-- The same observation of two ended runs (70_reset_and_hazards.md R255): STATUS, the two result registers, FLOW_COUNT
and BUCKET_COUNT, every word of the flow view, and the values the host read along the way. -/
def sameObservation (s t : State) : Prop :=
  (∀ r ∈ [Reg.status, .resultHandle, .resultBucket, .flowCount, .bucketCount],
    s.readWord (regOffset r) = t.readWord (regOffset r)) ∧
  (∀ offset, viewBase ≤ offset → s.readWord offset = t.readWord offset) ∧ s.reads = t.reads

/-- The registers a host can write and read back (20_memory.md R61, access RW): the operand registers. -/
def Reg.isOperand : Reg → Bool
  | .srcAddr0 | .srcAddr1 | .srcAddr2 | .srcAddr3 => true
  | .dstAddr0 | .dstAddr1 | .dstAddr2 | .dstAddr3 => true
  | .ports | .wireLen | .tsLo | .tsHi | .handleIn | .nbucketsIn => true
  | .cmd | .status | .resultHandle | .resultBucket => false
  | .flowCount | .bucketCount | .maxFlowsR | .maxBucketsR | .id => false

/-- Does handle `h` name a stored flow of bucket `b`? -/
def State.inBucket (s : State) (b : Nat) (h : Handle) : Bool :=
  match s.flowAt h.toNat with
  | none => false
  | some f => f.bucket.toNat == b

/-- `r` lists the stored flows by the time each was last touched, most recent first: it names stored flows only, each
once, and every chain shows the flows of its bucket in the order of `r` (10_state.md R35). -/
def MruOrder (s : State) (r : List Handle) : Prop :=
  r.Nodup ∧ (∀ h ∈ r, (s.flowAt h.toNat).isSome = true) ∧ ∀ b, s.chainAt b = r.filter (s.inBucket b)

/-- The touch order after a command that took `s` to `t` (10_state.md R35): a flow is touched when CREATE_FLOW creates
it and when UPDATE_FLOW updates it, a new or destroyed index has no flows, and nothing else touches. -/
def touchOrder (i : Instr) (s t : State) (r : List Handle) : List Handle :=
  match t.result, i with
  | .ok, .create => []
  | .ok, .destroy => []
  | .ok, .createFlow _ _ => t.resultHandle :: r
  | .ok, .updateFlow _ =>
    match s.latched with
    | some l => l.operands.handleIn :: r.erase l.operands.handleIn
    | none => r
  | _, _ => r

/-- The first check of 60_exceptions.md R220 that applies to a legal command on a healthy engine, as the result and the
fault code it leaves; `none` when no check applies. -/
def checkOrder (i : Instr) (s : State) (o : Operands) : Option (ResultCode × FaultCode) :=
  match i with
  | .create =>
    if s.alive = true then some (.fault, .indexExists)
    else if o.nbucketsIn = 0 then some (.fault, .badBucketCount)
    else if s.params.maxBuckets < o.nbucketsIn then some (.noResource, .noFault)
    else none
  | .destroy => if s.alive = false then some (.fault, .noIndex) else none
  | .lookup l3 =>
    if s.alive = false then some (.fault, .noIndex)
    else if l3 = .other2 ∨ l3 = .other3 then some (.fault, .unsupportedL3)
    else none
  | .createFlow l3 flags =>
    if s.alive = false then some (.fault, .noIndex)
    else if l3 = .other2 ∨ l3 = .other3 then some (.fault, .unsupportedL3)
    else if flags.syn = false then some (.fault, .createNotSyn)
    else if s.flowCount = s.params.maxFlows then some (.noResource, .noFault)
    else none
  | .updateFlow _ =>
    if s.alive = false then some (.fault, .noIndex)
    else if s.flowCount ≤ o.handleIn then some (.fault, .invalidHandle)
    else if (s.flowAt o.handleIn.toNat).any (fun f => f.state == .close) then some (.fault, .updateInClose)
    else none

/-- The snapshot whose completion step comes next, if the next step is one (70_reset_and_hazards.md R246). -/
def State.completing (s : State) : Option Snapshot :=
  if s.busy = true ∧ (s.turns.head? = none ∨ s.turns.head? = some .engine) then s.latched else none

/-- The operands of the UPDATE_FLOW on handle `h` that the step from `s` to `t` completes with OK; `none` for any other
step (40_flow_index.md R131). -/
def okUpdate (h : Handle) (s t : State) : Option Operands :=
  match s.completing with
  | none => none
  | some l =>
    match decode l.cw with
    | .command (.updateFlow _) => if l.operands.handleIn = h ∧ t.result = .ok then some l.operands else none
    | .command .create => none
    | .command .destroy => none
    | .command (.lookup _) => none
    | .command (.createFlow _ _) => none
    | .illegal _ => none

/-- Run `n` steps within one index lifetime (10_state.md R34): the state reached, and the operands of every UPDATE_FLOW
on handle `h` that completed with OK on the way, in order. `none` when a step has no next state or leaves no index. -/
def runLifetime (h : Handle) : Nat → State → Option (State × List Operands)
  | 0, s => some (s, [])
  | n + 1, s =>
    match step s with
    | .next t =>
      if t.alive then
        match runLifetime h n t with
        | some (u, os) => some (u, (okUpdate h s t).toList ++ os)
        | none => none
      else none
    | .fault _ => none
    | .refused _ => none

end Sys2Proof.Machine
end

