-- ==== Sys2Proof/Certificates/Slice0/Obligations.lean ====
section
/-!
DEFINITION. The statements for the provers, from the numbered rules of the spec.
-/

open Sys2Proof Sys2Proof.Machine

/-! ### Encoding -/

/-- 30_encoding.md R96, R97: decoding the assembled word of a command gives it back, every operand at every value. That a
word's four byte lanes, lane 0 first, decode as the word and leave the lanes after them is the model's own byte decoder:
20_memory.md R70 says FTE has no instruction byte order (log entry 13, DESIGN CHOICE). -/
def Obligations.DecodeOfEncodeGivesTheCommandBack : Prop :=
  ∀ (i : Instr) (rest : List Byte), i.wellFormed = true →
    decode (encode i) = .command i ∧ decodeBytes (lanes (encode i) ++ rest) = (.command i, rest)

/-- 30_encoding.md R96: a word selects a mnemonic exactly when `(cw & mask) == match`, the selected command takes L3 from
cw[9:8] and FLAGS from cw[7:4], and every other word is illegal. -/
def Obligations.MaskAndMatchSelectTheCommand : Prop :=
  ∀ cw : Word,
    (decode cw = .command .create ↔ cw &&& 0xFFFFFC0F#32 = 1) ∧
    (decode cw = .command .destroy ↔ cw &&& 0xFFFFFC0F#32 = 2) ∧
    (∀ l3, decode cw = .command (.lookup l3) ↔
      cw &&& 0xFFFFFC0F#32 = 3 ∧ l3.code = cw.extractLsb' 8 2) ∧
    (∀ l3 flags, decode cw = .command (.createFlow l3 flags) ↔
      cw &&& 0xFFFFFC0F#32 = 4 ∧ l3.code = cw.extractLsb' 8 2 ∧ flags.syn = cw.getLsbD 4 ∧
        flags.ack = cw.getLsbD 5 ∧ flags.fin = cw.getLsbD 6 ∧ flags.rst = cw.getLsbD 7) ∧
    (∀ flags, decode cw = .command (.updateFlow flags) ↔
      cw &&& 0xFFFFFC0F#32 = 5 ∧ flags.syn = cw.getLsbD 4 ∧ flags.ack = cw.getLsbD 5 ∧
        flags.fin = cw.getLsbD 6 ∧ flags.rst = cw.getLsbD 7) ∧
    ((∃ why, decode cw = .illegal why) ↔
      cw.extractLsb' 10 22 ≠ 0 ∨ cw.extractLsb' 0 4 = 0 ∨ 6 ≤ (cw.extractLsb' 0 4).toNat)

/-- 30_encoding.md R95: an illegal word raises ILLEGAL_COMMAND at its completion step and has no other effect; every
other word, whatever its ignored fields, is a command. -/
def Obligations.IllegalWordRaisesIllegalCommand : Prop :=
  ∀ (s : State) (l : Snapshot) (ts : List Turn),
    s.busy = true → s.latched = some l → s.EngineNext ts → s.fault = .noFault →
    ((l.cw.extractLsb' 0 4 = 0 ∨ 6 ≤ (l.cw.extractLsb' 0 4).toNat ∨ l.cw.extractLsb' 10 22 ≠ 0) →
      step s = .next
        { s with fault := .illegalCommand, result := .fault, busy := false, latched := none, turns := ts }) ∧
    (¬(l.cw.extractLsb' 0 4 = 0 ∨ 6 ≤ (l.cw.extractLsb' 0 4).toNat ∨ l.cw.extractLsb' 10 22 ≠ 0) →
      ∃ i, decode l.cw = .command i ∧ step s = exec i { s with turns := ts })

/-- 30_encoding.md R94: FLAGS and L3 of CREATE and DESTROY, FLAGS of LOOKUP and L3 of UPDATE_FLOW make no difference to
the completion step. -/
def Obligations.IgnoredFieldsMakeNoDifference : Prop :=
  ∀ (s : State) (o : Operands) (ts : List Turn) (op flags flags' : BitVec 4) (l3 l3' : BitVec 2),
    s.EngineNext ts →
    (op = 1 ∨ op = 2 ∨ (op = 3 ∧ l3 = l3') ∨ (op = 5 ∧ flags = flags')) →
    step (s.latch ⟨commandWord op flags l3, o⟩) = step (s.latch ⟨commandWord op flags' l3', o⟩)

/-- 30_encoding.md R99: some of its words, and what they stand for. -/
def Obligations.SampleWordsDecodeAsTheSpecSays : Prop :=
  decode 0x00000001#32 = .command .create ∧
  decode 0x000003F1#32 = .command .create ∧
  decode 0x00000002#32 = .command .destroy ∧
  decode 0x00000103#32 = .command (.lookup .ipv6) ∧
  decode 0x00000203#32 = .command (.lookup .other2) ∧
  decode 0x00000114#32 = .command (.createFlow .ipv6 ⟨true, false, false, false⟩) ∧
  decode 0x00000034#32 = .command (.createFlow .ipv4 ⟨true, true, false, false⟩) ∧
  decode 0x00000065#32 = .command (.updateFlow ⟨false, true, true, false⟩) ∧
  decode 0x00000085#32 = .command (.updateFlow ⟨false, false, false, true⟩) ∧
  decode 0x00000000#32 = .illegal .unassignedOp ∧
  decode 0x00000401#32 = .illegal .reservedBits

/-! ### Issue and completion -/

/-- 70_reset_and_hazards.md R246: when the engine moves and the latched word decodes to a command, the step is that
command's meaning, after the engine's turn is used up. -/
def Obligations.StepRunsTheDecodedCommand : Prop :=
  ∀ (s : State) (l : Snapshot) (i : Instr) (ts : List Turn),
    s.busy = true → s.latched = some l → s.EngineNext ts → decode l.cw = .command i → i.wellFormed = true →
    step s = exec i (s.setTurns ts)

/-- 70_reset_and_hazards.md R244: a CMD write while idle latches the word and the operand registers and sets BUSY,
whatever the word and the fault latch; host writes afterwards do not reach the latched command. -/
def Obligations.CmdWriteIssuesTheCommand : Prop :=
  ∀ (s : State) (v : Word), s.busy = false →
    s.writeWord 0x000 v = { s with busy := true, latched := some ⟨v, s.operands⟩ } ∧
    (∀ rest ts, s.HostNext ts → s.program = .write 4 0x000 v :: rest →
      step s = .next
        { s with program := rest, turns := ts, busy := true, latched := some ⟨v, s.operands⟩ }) ∧
    ∀ (offset : Nat) (w : Word),
      ((s.writeWord 0x000 v).writeWord offset w).latched = some ⟨v, s.operands⟩ ∧
      ((s.writeWord 0x000 v).writeWord offset w).busy = true

/-- 70_reset_and_hazards.md R245: a CMD write while BUSY issues nothing and latches BUSY_COLLISION unless a fault is
latched already; the in-flight command, whatever its word, is then refused at its completion. -/
def Obligations.CmdWriteWhileBusyCollides : Prop :=
  ∀ (s : State) (l : Snapshot) (v : Word), s.busy = true → s.latched = some l →
    s.writeWord 0x000 v = { s with fault := if s.fault = .noFault then .busyCollision else s.fault } ∧
    (∀ rest ts, s.turns = .host :: ts → s.program = .write 4 0x000 v :: rest →
      step s = .next
        { s with
          program := rest, turns := ts
          fault := if s.fault = .noFault then .busyCollision else s.fault }) ∧
    ∀ ts, s.EngineNext ts →
      step (s.writeWord 0x000 v) = .next
        { s.writeWord 0x000 v with result := .refused, busy := false, latched := none, turns := ts }

/-- 70_reset_and_hazards.md R246: every completion clears BUSY and drops the snapshot. -/
def Obligations.CompletionClearsBusyAndSnapshot : Prop :=
  ∀ (i : Instr) (s t : State), exec i s = .next t → t.busy = false ∧ t.latched = none ∧ s.latched ≠ none

/-- 70_reset_and_hazards.md R244: a command executes on its snapshot, not on the live operand registers. -/
def Obligations.CommandsDoNotReadLiveOperands : Prop :=
  ∀ (i : Instr) (s : State) (o : Operands),
    (∀ t, exec i s = .next t → exec i (s.setOperands o) = .next (t.setOperands o)) ∧
    (∀ f, exec i s = .fault f → exec i (s.setOperands o) = .fault f)

/-- 60_exceptions.md R213: a completion step that finds the engine faulted performs nothing, whatever the word. -/
def Obligations.FaultedEngineRefusesEveryCommand : Prop :=
  ∀ (s : State) (l : Snapshot), s.latched = some l → s.fault ≠ .noFault →
    (∀ i, exec i s = .next { s with result := .refused, busy := false, latched := none }) ∧
    ∀ ts, s.busy = true → s.EngineNext ts →
      step s = .next { s with result := .refused, busy := false, latched := none, turns := ts }

/-- 60_exceptions.md R211: every completion step, of a legal or an illegal word, has exactly one of three outcomes: a
result on a healthy engine; a fault, with no effect but the latch; a refusal, with no effect. -/
def Obligations.EveryCompletionIsResultFaultOrRefusal : Prop :=
  ∀ (s t : State) (ts : List Turn), s.busy = true → s.EngineNext ts → step s = .next t →
    t.busy = false ∧ t.latched = none ∧ t.turns = ts ∧
    ((s.fault = .noFault ∧ t.fault = .noFault ∧ (t.result = .ok ∨ t.result = .notFound ∨ t.result = .noResource)) ∨
    (s.fault = .noFault ∧ t.fault ≠ .noFault ∧
      t = { s with fault := t.fault, result := .fault, busy := false, latched := none, turns := ts }) ∨
    (s.fault ≠ .noFault ∧ t = { s with result := .refused, busy := false, latched := none, turns := ts }))

/-- 60_exceptions.md R220: within one command the first check that applies is the one reported. For a handle below
flow_count the slot is assumed occupied, as `State.Inv` says. -/
def Obligations.ChecksHappenInTheSpecsOrder : Prop :=
  ∀ (s : State) (l : Snapshot) (ts : List Turn), s.busy = true → s.latched = some l → s.EngineNext ts →
    (∀ h, h < s.flowCount.toNat → (s.flowAt h).isSome = true) →
    ∃ t, step s = .next t ∧
      (s.fault ≠ .noFault → t.result = .refused ∧ t.fault = s.fault) ∧
      (s.fault = .noFault →
        match decode l.cw with
        | .illegal _ => t.result = .fault ∧ t.fault = .illegalCommand
        | .command i =>
          match checkOrder i s l.operands with
          | some (r, f) => t.result = r ∧ t.fault = f
          | none => (t.result = .ok ∨ t.result = .notFound) ∧ t.fault = .noFault)

/-- 60_exceptions.md R219: with no contract violation LOOKUP completes with OK or NOT_FOUND, UPDATE_FLOW on a valid
handle of a non-CLOSE flow with OK, and DESTROY on a live index with OK. -/
def Obligations.NothingElseCanFail : Prop :=
  ∀ (s : State) (l : Snapshot), s.latched = some l → s.fault = .noFault → s.alive = true →
    (∀ l3, l3 = .ipv4 ∨ l3 = .ipv6 →
      ∃ t, exec (.lookup l3) s = .next t ∧ t.fault = .noFault ∧ (t.result = .ok ∨ t.result = .notFound)) ∧
    (∀ flags f, l.operands.handleIn < s.flowCount → s.flowAt l.operands.handleIn.toNat = some f → f.state ≠ .close →
      ∃ t, exec (.updateFlow flags) s = .next t ∧ t.fault = .noFault ∧ t.result = .ok) ∧
    ∃ t, exec .destroy s = .next t ∧ t.fault = .noFault ∧ t.result = .ok

/-! ### CREATE and DESTROY -/

/-- 40_flow_index.md R110: CREATE with no live index and 1 <= n <= MAX_BUCKETS makes an index of n empty buckets and
no flows; the other paths, in their order, leave the index alone. In each case every other piece of state is
unchanged. -/
def Obligations.CreateMakesAnEmptyIndex : Prop :=
  ∀ (s : State) (l : Snapshot), s.latched = some l → s.fault = .noFault →
    (s.alive = false → l.operands.nbucketsIn ≠ 0 → l.operands.nbucketsIn ≤ s.params.maxBuckets →
      exec .create s = .next
        { s with
          alive := true, bucketCount := l.operands.nbucketsIn, flowCount := 0, flows := [], chains := [],
          result := .ok, busy := false, latched := none } ∧
      ∀ t, exec .create s = .next t → (∀ h, t.flowAt h = none) ∧ ∀ b, t.chainAt b = []) ∧
    (s.alive = true →
      exec .create s = .next
        { s with fault := .indexExists, result := .fault, busy := false, latched := none }) ∧
    (s.alive = false → l.operands.nbucketsIn = 0 →
      exec .create s = .next
        { s with fault := .badBucketCount, result := .fault, busy := false, latched := none }) ∧
    (s.alive = false → s.params.maxBuckets < l.operands.nbucketsIn →
      exec .create s = .next { s with result := .noResource, busy := false, latched := none })

/-- 40_flow_index.md R111: CREATE is the only command that makes an index alive, and the bucket count is fixed for the
life of the index. -/
def Obligations.OnlyCreateMakesAnIndexAndItsSizeIsFixed : Prop :=
  (∀ (i : Instr) (s t : State), exec i s = .next t →
    (s.alive = false → t.alive = true → i = .create) ∧
    (s.alive = true → t.alive = true → t.bucketCount = s.bucketCount)) ∧
  ∀ s t : State, step s = .next t → s.alive = true → t.alive = true → t.bucketCount = s.bucketCount

/-- 40_flow_index.md R112: DESTROY releases every flow and the index, or faults NO_INDEX when there is none. -/
def Obligations.DestroyReleasesTheIndex : Prop :=
  ∀ (s : State) (l : Snapshot), s.latched = some l → s.fault = .noFault →
    (s.alive = true →
      exec .destroy s = .next
        { s with
          alive := false, bucketCount := 0, flowCount := 0, flows := [], chains := [],
          result := .ok, busy := false, latched := none } ∧
      ∀ t, exec .destroy s = .next t → ∀ offset, viewBase ≤ offset → t.readWord offset = 0) ∧
    (s.alive = false →
      exec .destroy s = .next
        { s with fault := .noIndex, result := .fault, busy := false, latched := none })

/-- 40_flow_index.md R114: at a completion step RESULT_HANDLE and RESULT_BUCKET are written only by LOOKUP and
CREATE_FLOW, and neither writes them when it is refused or faults. -/
def Obligations.ResultRegistersAreWrittenOnlyByLookupAndCreateFlow : Prop :=
  ∀ (s t : State) (l : Snapshot) (ts : List Turn),
    s.busy = true → s.latched = some l → s.EngineNext ts → step s = .next t →
    ((∀ l3, decode l.cw ≠ .command (.lookup l3)) ∧ (∀ l3 flags, decode l.cw ≠ .command (.createFlow l3 flags)) ∨
      t.result = .refused ∨ t.result = .fault) →
    t.resultHandle = s.resultHandle ∧ t.resultBucket = s.resultBucket

/-! ### LOOKUP -/

/-- 40_flow_index.md R115, with the packet's tuple from the snapshot as 10_state.md R40 assembles it: on a live index and
a supported family LOOKUP writes the packet's bucket to RESULT_BUCKET and the first match of that bucket's chain, or
NO_HANDLE, to RESULT_HANDLE, and nothing else; with no index, or on a live index with an unsupported family, it faults
and changes nothing. -/
def Obligations.LookupAnswersTheFirstMatchOfTheBucket : Prop :=
  ∀ (s : State) (l : Snapshot) (l3 : L3Tag), s.latched = some l → s.fault = .noFault →
    (s.alive = false →
      exec (.lookup l3) s = .next
        { s with fault := .noIndex, result := .fault, busy := false, latched := none }) ∧
    (s.alive = true → l3 = .other2 ∨ l3 = .other3 →
      exec (.lookup l3) s = .next
        { s with fault := .unsupportedL3, result := .fault, busy := false, latched := none }) ∧
    (s.alive = true → l3 = .ipv4 ∨ l3 = .ipv6 →
      let o := l.operands
      let src := if l3 = .ipv4 then .v4 o.srcAddr0 else .v6 o.srcAddr0 o.srcAddr1 o.srcAddr2 o.srcAddr3
      let dst := if l3 = .ipv4 then .v4 o.dstAddr0 else .v6 o.dstAddr0 o.dstAddr1 o.dstAddr2 o.dstAddr3
      let tuple : FiveTuple := ⟨l3, src, dst, o.ports.extractLsb' 0 16, o.ports.extractLsb' 16 16⟩
      let b := bucketOf s.params tuple s.bucketCount
      exec (.lookup l3) s = .next
        (match (s.chainAt b.toNat).find? (s.slotMatches tuple) with
        | some h =>
          { s with resultBucket := b, resultHandle := h, result := .ok, busy := false, latched := none }
        | none =>
          { s with
            resultBucket := b, resultHandle := 0xFFFFFFFF, result := .notFound, busy := false, latched := none }))

/-- 40_flow_index.md R118: LOOKUP leaves every chain's order, every flow record and the flow count unchanged, and every
word of the flow view reads as before. -/
def Obligations.LookupDoesNotTouch : Prop :=
  ∀ (l3 : L3Tag) (s t : State), exec (.lookup l3) s = .next t →
    t.chains = s.chains ∧ t.flows = s.flows ∧ t.flowCount = s.flowCount ∧ t.alive = s.alive ∧
    t.bucketCount = s.bucketCount ∧ ∀ offset, viewBase ≤ offset → t.readWord offset = s.readWord offset

/-- 40_flow_index.md R117, with R116: LOOKUP returns the most recently touched flow among ALL stored flows that match,
or NO_HANDLE; neither the touch order nor the search names a bucket, so the handle does not depend on the hash
function. -/
def Obligations.LookupReturnsTheMostRecentlyTouchedMatch : Prop :=
  ∀ (s : State) (l : Snapshot) (l3 : L3Tag) (r : List Handle),
    s.Inv → MruOrder s r → s.latched = some l → s.fault = .noFault → s.alive = true →
    l3 = .ipv4 ∨ l3 = .ipv6 →
    ∃ t, exec (.lookup l3) s = .next t ∧
      t.resultHandle = (r.find? (s.slotMatches (l.operands.tuple l3))).getD noHandle ∧
      (t.result = .ok ↔ ∃ h f, s.flowAt h = some f ∧ flowMatches f (l.operands.tuple l3) = true) ∧
      (t.result = .notFound ↔ ∀ h f, s.flowAt h = some f → flowMatches f (l.operands.tuple l3) = false)

/-- 10_state.md R35: within every chain, handles are ordered by the time the flow was last touched, most recent first:
they are so after reset (no flow is stored), and every command keeps the chains in the touch order it leaves. -/
def Obligations.ChainsStayInTouchOrder : Prop :=
  MruOrder State.reset [] ∧
  ∀ (i : Instr) (s t : State) (r : List Handle), s.Inv → MruOrder s r → exec i s = .next t →
    MruOrder t (touchOrder i s t r)

/-! ### CREATE_FLOW -/

/-- 40_flow_index.md R121, R122: CREATE_FLOW of a supported SYN packet below capacity stores the new record in slot
flow_count, at the head of its bucket, and changes no other flow or chain. The record's fields are spelled out from the
operand registers of the snapshot as 10_state.md R40 assembles them: word 0 alone of an IPv4 address, all four words of
an IPv6 one, PORTS[15:0] and PORTS[31:16]. -/
def Obligations.CreateFlowStoresTheNewFlowAtTheHead : Prop :=
  ∀ (s : State) (l : Snapshot) (l3 : L3Tag) (flags : Flags),
    s.latched = some l → s.fault = .noFault → s.alive = true → l3 = .ipv4 ∨ l3 = .ipv6 → flags.syn = true →
    s.flowCount ≠ s.params.maxFlows →
    let o := l.operands
    let src := if l3 = .ipv4 then .v4 o.srcAddr0 else .v6 o.srcAddr0 o.srcAddr1 o.srcAddr2 o.srcAddr3
    let dst := if l3 = .ipv4 then .v4 o.dstAddr0 else .v6 o.dstAddr0 o.dstAddr1 o.dstAddr2 o.dstAddr3
    let sport := o.ports.extractLsb' 0 16
    let dport := o.ports.extractLsb' 16 16
    let b := bucketOf s.params ⟨l3, src, dst, sport, dport⟩ s.bucketCount
    ∃ t, exec (.createFlow l3 flags) s = .next t ∧
      t.result = .ok ∧ t.resultHandle = s.flowCount ∧ t.resultBucket = b ∧ t.flowCount = s.flowCount + 1 ∧
      t.flowAt s.flowCount.toNat = some
        { l3 := l3, src := src, dst := dst, sport := sport, dport := dport,
          state := if flags.ack then .synAck else .syn,
          firstSeen := o.tsHi ++ o.tsLo, lastSeen := o.tsHi ++ o.tsLo,
          byteCount := o.wireLen.setWidth 64, packetCount := 1, bucket := b } ∧
      t.chainAt b.toNat = s.flowCount :: s.chainAt b.toNat ∧
      (∀ k, k ≠ b.toNat → t.chainAt k = s.chainAt k) ∧
      (∀ k, k ≠ s.flowCount.toNat → t.flowAt k = s.flowAt k) ∧
      t.fault = .noFault ∧ t.alive = true ∧ t.bucketCount = s.bucketCount ∧ t.busy = false ∧ t.latched = none ∧
      (s.Inv → t.Inv)

/-- 40_flow_index.md R124: at capacity CREATE_FLOW completes with NO_RESOURCE, writes only the two result registers and
leaves the engine healthy. -/
def Obligations.CreateFlowAtCapacityChangesNoFlow : Prop :=
  ∀ (s : State) (l : Snapshot) (l3 : L3Tag) (flags : Flags),
    s.latched = some l → s.fault = .noFault → s.alive = true → l3 = .ipv4 ∨ l3 = .ipv6 → flags.syn = true →
    s.flowCount = s.params.maxFlows →
    exec (.createFlow l3 flags) s = .next
      { s with
        resultHandle := 0xFFFFFFFF
        resultBucket := bucketOf s.params (l.operands.tuple l3) s.bucketCount
        result := .noResource, busy := false, latched := none }

/-- 40_flow_index.md R125: a CREATE_FLOW whose FLAGS lack SYN never creates a flow; on a healthy live index with a
supported family it faults CREATE_NOT_SYN and every effect is discarded. -/
def Obligations.CreateFlowWithoutSynFaults : Prop :=
  ∀ (s : State) (l3 : L3Tag) (flags : Flags), flags.syn = false →
    (∀ t, exec (.createFlow l3 flags) s = .next t →
      t.flows = s.flows ∧ t.chains = s.chains ∧ t.flowCount = s.flowCount ∧ t.fault ≠ .noFault) ∧
    (∀ l, s.latched = some l → s.fault = .noFault → s.alive = true → l3 = .ipv4 ∨ l3 = .ipv6 →
      exec (.createFlow l3 flags) s = .next
        { s with fault := .createNotSyn, result := .fault, busy := false, latched := none })

/-- 40_flow_index.md R120, 41_hasher.md R161: CREATE_FLOW with no index faults NO_INDEX; on a live index an unsupported
family faults UNSUPPORTED_L3, with or without SYN; nothing else changes. -/
def Obligations.CreateFlowWithNoIndexOrAnUnsupportedFamilyFaults : Prop :=
  ∀ (s : State) (l : Snapshot) (l3 : L3Tag) (flags : Flags), s.latched = some l → s.fault = .noFault →
    (s.alive = false →
      exec (.createFlow l3 flags) s = .next
        { s with fault := .noIndex, result := .fault, busy := false, latched := none }) ∧
    (s.alive = true → l3 = .other2 ∨ l3 = .other3 →
      exec (.createFlow l3 flags) s = .next
        { s with fault := .unsupportedL3, result := .fault, busy := false, latched := none })

/-- 40_flow_index.md R123, R117: CREATE_FLOW does not look for a stored flow of the same tuple; right after it a LOOKUP
of the tuple, in either direction, returns the new flow. -/
def Obligations.ADuplicateFlowShadowsTheOlderOne : Prop :=
  ∀ (s t : State) (l l' : Snapshot) (l3 : L3Tag) (flags : Flags), s.Inv →
    s.latched = some l → s.fault = .noFault → s.alive = true → l3 = .ipv4 ∨ l3 = .ipv6 → flags.syn = true →
    s.flowCount ≠ s.params.maxFlows → exec (.createFlow l3 flags) s = .next t →
    l'.operands.tuple l3 = l.operands.tuple l3 ∨ l'.operands.tuple l3 = (l.operands.tuple l3).reverse →
    ∃ u, exec (.lookup l3) (t.latch l') = .next u ∧
      u.result = .ok ∧ u.resultHandle = s.flowCount

/-! ### UPDATE_FLOW -/

/-- 40_flow_index.md R127, R130: UPDATE_FLOW on a valid handle of a flow not in CLOSE moves it to the head of its chain
and writes its state, last_seen and counters; every other flow and chain, the 5-tuple, first_seen, bucket and the flow
count are unchanged. -/
def Obligations.UpdateFlowUpdatesOneFlowAndMovesItToFront : Prop :=
  ∀ (s : State) (l : Snapshot) (flags : Flags) (f : FlowRecord),
    s.latched = some l → s.fault = .noFault → s.alive = true → l.operands.handleIn < s.flowCount →
    s.flowAt l.operands.handleIn.toNat = some f → f.state ≠ .close →
    ∃ st t, nextState f.state flags = some st ∧ exec (.updateFlow flags) s = .next t ∧
      t.result = .ok ∧ t.fault = .noFault ∧
      t.flowAt l.operands.handleIn.toNat = some
        { f with
          state := st, lastSeen := l.operands.tsHi ++ l.operands.tsLo,
          byteCount := f.byteCount + l.operands.wireLen.setWidth 64, packetCount := f.packetCount + 1 } ∧
      t.chainAt f.bucket.toNat = l.operands.handleIn :: (s.chainAt f.bucket.toNat).erase l.operands.handleIn ∧
      (∀ k, k ≠ f.bucket.toNat → t.chainAt k = s.chainAt k) ∧
      (∀ k, k ≠ l.operands.handleIn.toNat → t.flowAt k = s.flowAt k) ∧
      t.flowCount = s.flowCount ∧ t.alive = true ∧ t.bucketCount = s.bucketCount ∧
      t.resultHandle = s.resultHandle ∧ t.resultBucket = s.resultBucket ∧ t.busy = false ∧ t.latched = none ∧
      (s.Inv → t.Inv)

/-- 40_flow_index.md R127, 10_state.md R33: UPDATE_FLOW with no index or with a handle at or above flow_count,
NO_HANDLE among them, faults and changes nothing else. -/
def Obligations.UpdateFlowOfAnInvalidHandleFaults : Prop :=
  ∀ (s : State) (l : Snapshot) (flags : Flags), s.latched = some l → s.fault = .noFault →
    (s.alive = false →
      exec (.updateFlow flags) s = .next
        { s with fault := .noIndex, result := .fault, busy := false, latched := none }) ∧
    (s.alive = true → s.flowCount ≤ l.operands.handleIn →
      exec (.updateFlow flags) s = .next
        { s with fault := .invalidHandle, result := .fault, busy := false, latched := none }) ∧
    (s.alive = true → l.operands.handleIn = 0xFFFFFFFF →
      exec (.updateFlow flags) s = .next
        { s with fault := .invalidHandle, result := .fault, busy := false, latched := none })

/-- 43_tcp_state_machine.md R194: UPDATE_FLOW on a flow in CLOSE raises UPDATE_IN_CLOSE and changes nothing; no
transition and no creation gives CLOSE. -/
def Obligations.UpdateInCloseFaults : Prop :=
  (∀ (s : State) (l : Snapshot) (flags : Flags) (f : FlowRecord),
    s.latched = some l → s.fault = .noFault → s.alive = true → l.operands.handleIn < s.flowCount →
    s.flowAt l.operands.handleIn.toNat = some f → f.state = .close →
    exec (.updateFlow flags) s = .next
      { s with fault := .updateInClose, result := .fault, busy := false, latched := none }) ∧
  (∀ st flags, nextState st flags ≠ some .close) ∧ ∀ flags, initialState flags ≠ .close

/-- 40_flow_index.md R128: UPDATE_FLOW reads the packet's FLAGS, timestamp and wire length and HANDLE_IN only: packets
that agree on those, whatever their addresses, ports and L3 tag, give the same outcome. -/
def Obligations.UpdateFlowReadsNoPacketTuple : Prop :=
  ∀ (s : State) (l l' : Snapshot) (flags : Flags),
    l.operands.handleIn = l'.operands.handleIn → l.operands.tsLo = l'.operands.tsLo →
    l.operands.tsHi = l'.operands.tsHi → l.operands.wireLen = l'.operands.wireLen →
    exec (.updateFlow flags) (s.latch l) = exec (.updateFlow flags) (s.latch l')

/-- 40_flow_index.md R132: right after an UPDATE_FLOW with OK on flow h, h is the head of its bucket, and a LOOKUP of
any packet that h matches returns h. -/
def Obligations.AnUpdatedFlowIsFoundFirst : Prop :=
  ∀ (s t : State) (l l' : Snapshot) (flags : Flags) (l3 : L3Tag) (f : FlowRecord), s.Inv →
    s.latched = some l → exec (.updateFlow flags) s = .next t → t.result = .ok →
    t.flowAt l.operands.handleIn.toNat = some f →
    (t.chainAt f.bucket.toNat).head? = some l.operands.handleIn ∧
    (flowMatches f (l'.operands.tuple l3) = true →
      ∃ u, exec (.lookup l3) (t.latch l') = .next u ∧
        u.result = .ok ∧ u.resultHandle = l.operands.handleIn)

/-- 40_flow_index.md R131: after a flow has been created, and after any run of steps within the index's lifetime (any
commands, on this handle or others, any host accesses), packet_count is N + 1 for the N updates of the flow that
completed with OK, and byte_count is the sum of the wire lengths, the creating packet's included, modulo 2^64. The
premise on flow_count is 10_state.md R31's bound (part of `State.Inv`). -/
def Obligations.CountersCountEveryPacketOfTheFlow : Prop :=
  ∀ (s s₁ t : State) (l : Snapshot) (l3 : L3Tag) (flags : Flags) (n : Nat) (os : List Operands),
    s.flowCount ≤ s.params.maxFlows →
    s.latched = some l → exec (.createFlow l3 flags) s = .next s₁ → s₁.result = .ok →
    runLifetime s₁.resultHandle n s₁ = some (t, os) →
    ∃ f, t.flowAt s₁.resultHandle.toNat = some f ∧
      f.packetCount = BitVec.ofNat 64 (os.length + 1) ∧
      f.byteCount = BitVec.ofNat 64 (l.operands.wireLen.toNat + (os.map fun o => o.wireLen.toNat).sum)

/-! ### Hasher, Matcher and TCP State Machine -/

/-- 41_hasher.md R151 to R158, for every FINAL_MIX and every shift: the bucket index is FINAL_MIX of the sum of the two
side hashes, modulo the bucket count; a side hash starts at 0 and mixes in the six bytes of the address value and its
port, most significant first; the index is the same for both directions of a connection. FINAL_MIX is the uninterpreted
function of its number (log entry 4) or the default, whose steps R155 marks "from general knowledge, not in source" (log
entry 4, PRESUMED): the clause on them is no rule of the spec's. -/
def Obligations.BucketIndexIsSymmetricAndInRange : Prop :=
  (∀ (p : Params) (l3 : L3Tag) (a c : Addr) (x y : Port) (n : Word),
    let value : Addr → Word := fun a =>
      match a with
      | .v4 w => w
      | .v6 w0 w1 w2 w3 => w0 + w1 + w2 + w3
    let mixIn : Word → Byte → Word := fun h byte =>
      let h1 := h + byte.setWidth 32
      let h2 := h1 + (h1 <<< p.mixShl.val)
      h2 ^^^ (h2 >>> p.mixShr.val)
    let side : Word → Port → Word := fun v q =>
      mixIn (mixIn (mixIn (mixIn (mixIn (mixIn 0 (v.extractLsb' 24 8)) (v.extractLsb' 16 8)) (v.extractLsb' 8 8))
        (v.extractLsb' 0 8)) (q.extractLsb' 8 8)) (q.extractLsb' 0 8)
    (n ≠ 0 →
      (bucketOf p ⟨l3, a, c, x, y⟩ n).toNat =
        (applyFinalMix p.finalMix (side (value a) x + side (value c) y)).toNat % n.toNat ∧
      bucketOf p ⟨l3, a, c, x, y⟩ n < n) ∧
    bucketOf p ⟨l3, a, c, x, y⟩ n = bucketOf p ⟨l3, c, a, y, x⟩ n) ∧
  ∀ h : Word,
    (∀ k, applyFinalMix (.custom k) h = Config.finalMix k h) ∧
    let h1 := h + (h <<< 3)
    let h2 := h1 ^^^ (h1 >>> 11)
    applyFinalMix .oneAtATime h = h2 + (h2 <<< 15)

/-- 41_hasher.md R159: two IPv6 addresses with the same word sum modulo 2^32 hash alike, and the Matcher still tells
them apart. -/
def Obligations.SameWordSumHashesAlikeButDoesNotMatch : Prop :=
  ∀ (p : Params) (a0 a1 a2 a3 b0 b1 b2 b3 : Word) (port : Port),
    (a0 + a1 + a2 + a3 = b0 + b1 + b2 + b3 →
      sideHash p (addrValue (.v6 a0 a1 a2 a3)) port = sideHash p (addrValue (.v6 b0 b1 b2 b3)) port) ∧
    (addrEq (.v6 a0 a1 a2 a3) (.v6 b0 b1 b2 b3) = true ↔ a0 = b0 ∧ a1 = b1 ∧ a2 = b2 ∧ a3 = b3)

/-- 42_matcher.md R174, R175: a flow matches exactly its own tuple and the reverse of it. -/
def Obligations.AFlowMatchesExactlyItsTupleAndTheReverse : Prop :=
  ∀ (f : FlowRecord) (t : FiveTuple),
    flowMatches f t = true ↔
      (t = ⟨f.l3, f.src, f.dst, f.sport, f.dport⟩ ∨ t = ⟨f.l3, f.dst, f.src, f.dport, f.sport⟩)

/-- 43_tcp_state_machine.md R188, R186: which flags lead to which successor, in the spec's priority order, and that the
permitted successors of each state are exactly the range of the transition function; CLOSE is reached by no transition
and has none. -/
def Obligations.PermittedSuccessorsAreExact : Prop :=
  (∀ f : Flags,
    (f.syn = true ∧ f.ack = true → nextState .syn f = some .synAck) ∧
    (¬(f.syn = true ∧ f.ack = true) → f.fin = true → nextState .syn f = some .fin) ∧
    (¬(f.syn = true ∧ f.ack = true) → f.fin = false → f.rst = true → nextState .syn f = some .rst) ∧
    (¬(f.syn = true ∧ f.ack = true) → f.fin = false → f.rst = false → nextState .syn f = some .established) ∧
    (∀ a, a = .synAck ∨ a = .established →
      (f.fin = true → nextState a f = some .fin) ∧
      (f.fin = false → f.rst = true → nextState a f = some .rst) ∧
      (f.fin = false → f.rst = false → nextState a f = some .established)) ∧
    (f.rst = true → nextState .fin f = some .rst) ∧
    (f.rst = false → nextState .fin f = some .fin) ∧
    nextState .rst f = some .rst ∧
    nextState .close f = none) ∧
  ∀ a b : TcpState, (∃ flags, nextState a flags = some b) ↔
    match a with
    | .syn => b = .synAck ∨ b = .established ∨ b = .fin ∨ b = .rst
    | .synAck => b = .established ∨ b = .fin ∨ b = .rst
    | .established => b = .established ∨ b = .fin ∨ b = .rst
    | .fin => b = .fin ∨ b = .rst
    | .rst => b = .rst
    | .close => False

/-! ### The window -/

/-- 20_memory.md R63: the layout of STATUS, and STATUS is what a read at 0x004 returns; the codes are those of
60_exceptions.md R212 and R215. -/
def Obligations.StatusLayoutIsTheSpecs : Prop :=
  ∀ s : State, ∃ w, s.readWord 0x004 = w ∧
    w.getLsbD 0 = s.busy ∧ (w.getLsbD 1 = true ↔ s.fault ≠ .noFault) ∧ w.getLsbD 2 = s.alive ∧
    w.getLsbD 3 = false ∧
    w.extractLsb' 4 4 =
      (match s.result with
      | .none => 0
      | .ok => 1
      | .notFound => 2
      | .noResource => 3
      | .fault => 4
      | .refused => 5) ∧
    w.extractLsb' 8 8 =
      (match s.fault with
      | .noFault => 0
      | .illegalCommand => 1
      | .busyCollision => 2
      | .noIndex => 3
      | .indexExists => 4
      | .badBucketCount => 5
      | .unsupportedL3 => 6
      | .createNotSyn => 7
      | .invalidHandle => 8
      | .updateInClose => 9) ∧
    w.extractLsb' 16 16 = 0

/-- 20_memory.md R61: each RW register reads back the last value written to it, and the write changes no other word of
the window. -/
def Obligations.OperandRegistersReadBack : Prop :=
  ∀ (s : State) (r : Reg) (v : Word), r.isOperand = true →
    (s.writeWord (regOffset r) v).readWord (regOffset r) = v ∧
    ∀ offset, offset ≠ regOffset r → (s.writeWord (regOffset r) v).readWord offset = s.readWord offset

/-- 20_memory.md R72: reads of reserved offsets and beyond the window and of CMD return 0; writes to them, to read-only
registers and to the flow view change nothing. -/
def Obligations.ReservedOffsetsReadZeroAndIgnoreWrites : Prop :=
  ∀ (s : State) (offset : Nat),
    ((0x05C ≤ offset ∧ offset ≤ 0xFFC) ∨ 0x1000 + s.params.maxFlows.toNat * 0x80 ≤ offset ∨
      (0x1000 ≤ offset ∧ 0x4C ≤ (offset - 0x1000) % 0x80) ∨ offset = 0x000 → s.readWord offset = 0) ∧
    (∀ v, (0x004 ≤ offset ∧ offset ≤ 0x00C) ∨ 0x048 ≤ offset → s.writeWord offset v = s)

/-- 20_memory.md R68: the flow-view record of a valid handle, word by word; the codes in META are those of 10_state.md
R23 and R26. -/
def Obligations.FlowViewShowsTheRecord : Prop :=
  ∀ (s : State) (h : Nat) (f : FlowRecord), s.alive = true → h < s.flowCount.toNat →
    h < s.params.maxFlows.toNat → s.flowAt h = some f →
    let view := fun o => s.readWord (0x1000 + h * 0x80 + o)
    ((view 0x00).getLsbD 0 = true ∧ (view 0x00).extractLsb' 1 3 = 0 ∧
      (view 0x00).extractLsb' 4 2 =
        (match f.l3 with
        | .ipv4 => 0
        | .ipv6 => 1
        | .other2 => 2
        | .other3 => 3) ∧
      (view 0x00).extractLsb' 6 2 = 0 ∧
      (view 0x00).extractLsb' 8 3 =
        (match f.state with
        | .syn => 0
        | .synAck => 1
        | .established => 2
        | .fin => 3
        | .rst => 4
        | .close => 5) ∧
      (view 0x00).extractLsb' 11 21 = 0) ∧
    view 0x04 = f.dport ++ f.sport ∧
    (match f.src with
      | .v4 a => view 0x08 = a ∧ view 0x0C = 0 ∧ view 0x10 = 0 ∧ view 0x14 = 0
      | .v6 w0 w1 w2 w3 => view 0x08 = w0 ∧ view 0x0C = w1 ∧ view 0x10 = w2 ∧ view 0x14 = w3) ∧
    (match f.dst with
      | .v4 a => view 0x18 = a ∧ view 0x1C = 0 ∧ view 0x20 = 0 ∧ view 0x24 = 0
      | .v6 w0 w1 w2 w3 => view 0x18 = w0 ∧ view 0x1C = w1 ∧ view 0x20 = w2 ∧ view 0x24 = w3) ∧
    view 0x2C ++ view 0x28 = f.firstSeen ∧ view 0x34 ++ view 0x30 = f.lastSeen ∧
    view 0x3C ++ view 0x38 = f.byteCount ∧ view 0x44 ++ view 0x40 = f.packetCount ∧
    view 0x48 = f.bucket ∧ ∀ o, 0x4C ≤ o → o ≤ 0x7C → view o = 0

/-- 20_memory.md R69: when a handle is not valid, every word of its record reads 0. -/
def Obligations.AnInvalidHandlesRecordReadsZero : Prop :=
  ∀ (s : State) (h o : Nat), ¬(s.alive = true ∧ h < s.flowCount.toNat) → o < 0x80 →
    s.readWord (0x1000 + h * 0x80 + o) = 0

/-- 10_state.md R43, 20_memory.md R66: the read-only information registers. -/
def Obligations.InformationRegistersShowStateAndParameters : Prop :=
  ∀ s : State, s.readWord 0x048 = s.flowCount ∧ s.readWord 0x04C = s.bucketCount ∧
    s.readWord 0x050 = s.params.maxFlows ∧ s.readWord 0x054 = s.params.maxBuckets ∧
    s.readWord 0x058 = 0x464C5701 ∧ s.readWord 0x008 = s.resultHandle ∧ s.readWord 0x00C = s.resultBucket

/-- 40_flow_index.md R122, R130 in window terms: with OK, CREATE_FLOW changes no word of the flow view outside the record
of slot flow_count, and UPDATE_FLOW none outside the record of HANDLE_IN; CREATE changes none at all. -/
def Obligations.FlowCommandsChangeOneFlowViewRecord : Prop :=
  ∀ (s t : State) (l : Snapshot), s.Inv → s.latched = some l →
    (∀ l3 flags, exec (.createFlow l3 flags) s = .next t →
      ∀ offset, viewBase ≤ offset →
        offset < recordOffset s.flowCount.toNat ∨ recordOffset s.flowCount.toNat + recordBytes ≤ offset →
        t.readWord offset = s.readWord offset) ∧
    (∀ flags, exec (.updateFlow flags) s = .next t →
      ∀ offset, viewBase ≤ offset →
        offset < recordOffset l.operands.handleIn.toNat ∨
          recordOffset l.operands.handleIn.toNat + recordBytes ≤ offset →
        t.readWord offset = s.readWord offset) ∧
    (exec .create s = .next t → ∀ offset, viewBase ≤ offset → t.readWord offset = s.readWord offset)

/-! ### Who moves -/

/-- 20_memory.md R73, 30_encoding.md R98: a host read returns the word and changes nothing but the record of what the
host has read and what it has still to do; POLL stays exactly while BUSY. The record and the rest of the program are the
model's own fields (log entry 1). -/
def Obligations.HostReadsHaveNoSideEffect : Prop :=
  ∀ (s : State) (rest : List HostOp) (ts : List Turn), s.HostNext ts →
    (∀ offset, offset % 4 = 0 → s.program = .read 4 offset :: rest →
      step s = .next { s with program := rest, turns := ts, reads := s.readWord offset :: s.reads }) ∧
    (s.program = .poll :: rest →
      step s = .next
        { s with
          program := if s.busy = true then .poll :: rest else rest
          turns := ts, reads := s.readWord 0x004 :: s.reads })

/-- 20_memory.md R71: an access of another width or a misaligned access has no step. -/
def Obligations.AccessesOutsideTheInterfaceAreRefused : Prop :=
  ∀ (s : State) (rest : List HostOp) (ts : List Turn) (width offset : Nat) (v : Word),
    s.HostNext ts → width ≠ 4 ∨ offset % 4 ≠ 0 →
    (s.program = .read width offset :: rest → step s = .refused (.accessOutsideInterface width offset)) ∧
    (s.program = .write width offset v :: rest → step s = .refused (.accessOutsideInterface width offset))

/-- 10_state.md R20, 60_exceptions.md R231: an engine that is not BUSY takes no step. -/
def Obligations.AnIdleEngineTakesNoStep : Prop :=
  ∀ (s : State) (ts : List Turn), s.busy = false →
    (s.turns = .engine :: ts → step s = .next { s with turns := ts }) ∧
    (s.turns = [] → s.program = [] → step s = .next s)

/-- 20_memory.md R73: a write to CMD is the only access that starts engine activity. -/
def Obligations.OnlyACmdWriteStartsTheEngine : Prop :=
  ∀ s t : State, step s = .next t → s.busy = false → t.busy = true →
    ∃ v rest, s.program = .write 4 0x000 v :: rest ∧ t.latched = some ⟨v, s.operands⟩

/-- 20_memory.md R75, 70_reset_and_hazards.md R248: whatever the host does, the index, the flows, the result and the
result registers change at completion steps only; before one they show the previous command's values. -/
def Obligations.HostMovesLeaveResultsAndIndexAlone : Prop :=
  ∀ (s t : State) (ts : List Turn), s.HostNext ts → step s = .next t →
    t.alive = s.alive ∧ t.bucketCount = s.bucketCount ∧ t.flowCount = s.flowCount ∧ t.flows = s.flows ∧
    t.chains = s.chains ∧ t.result = s.result ∧ t.resultHandle = s.resultHandle ∧
    t.resultBucket = s.resultBucket ∧ (t.fault = s.fault ∨ (s.busy = true ∧ t.fault = .busyCollision)) ∧
    ∀ offset, viewBase ≤ offset → t.readWord offset = s.readWord offset

/-- The frame of every command: the parameters, the operand registers, and the host's program, turns and values read
are not the engine's to change (10_state.md R20, R40). -/
def Obligations.CommandsLeaveTheHostsSideAlone : Prop :=
  ∀ (i : Instr) (s t : State), exec i s = .next t →
    t.params = s.params ∧ t.operands = s.operands ∧ t.program = s.program ∧ t.turns = s.turns ∧ t.reads = s.reads ∧
    ∀ r : Reg, r.isOperand = true → t.readWord (regOffset r) = s.readWord (regOffset r)

/-- 00_scope.md R6: the parameters of an instance are fixed for its life. -/
def Obligations.ParametersNeverChange : Prop :=
  ∀ s t : State, step s = .next t → t.params = s.params

/-! ### Reset and the whole machine -/

/-- 10_state.md R47: the reset values. The model's own fields hold nothing (log entries 1 and 2). -/
def Obligations.ResetHoldsTheSpecsValues : Prop :=
  State.reset.alive = false ∧ State.reset.bucketCount = 0 ∧ State.reset.flowCount = 0 ∧
  (∀ h, State.reset.flowAt h = none) ∧ (∀ b, State.reset.chainAt b = []) ∧
  State.reset.fault = .noFault ∧ State.reset.result = .none ∧ State.reset.busy = false ∧
  State.reset.latched = none ∧
  (∀ r : Reg, r.isOperand = true → State.reset.readWord (regOffset r) = 0) ∧
  State.reset.resultHandle = 0xFFFFFFFF ∧ State.reset.resultBucket = 0 ∧ State.reset.readWord 0x004 = 0

/-- 70_reset_and_hazards.md R240, R241: a reset event sets the machine to its reset values whatever it was doing, and
STATUS reads 0 afterwards. That the parameters and the host's program, turns and values read stay is the model's own
choice (log entries 1 to 3). -/
def Obligations.AResetEventRestoresTheResetState : Prop :=
  ∀ (s : State) (ts : List Turn), s.turns = .reset :: ts →
    ∃ t, step s = .next t ∧
      t = { State.resetWith s.params with program := s.program, turns := ts, reads := s.reads } ∧
      t.readWord 0x004 = 0 ∧ t.latched = none

/-- 60_exceptions.md R222, R214: while faulted nothing but a reset event changes the fault code, the index, the flows or
the result registers. -/
def Obligations.AFaultIsClearedOnlyByReset : Prop :=
  ∀ s t : State, step s = .next t → s.fault ≠ .noFault → s.turns.head? ≠ some .reset →
    t.fault = s.fault ∧ t.alive = s.alive ∧ t.bucketCount = s.bucketCount ∧ t.flowCount = s.flowCount ∧
    t.flows = s.flows ∧ t.chains = s.chains ∧ t.resultHandle = s.resultHandle ∧ t.resultBucket = s.resultBucket

/-- 10_state.md R30, 40_flow_index.md R113: no step changes a stored flow's 5-tuple, first_seen or bucket, and a flow
disappears only with its whole index. -/
def Obligations.AFlowsTupleIsFixedAndFlowsLeaveOnlyWithTheIndex : Prop :=
  ∀ (s t : State) (h : Nat) (f : FlowRecord), s.Inv → step s = .next t → s.flowAt h = some f →
    (t.alive = false ∧ ∀ k, t.flowAt k = none) ∨
    ∃ g, t.flowAt h = some g ∧ g.l3 = f.l3 ∧ g.src = f.src ∧ g.dst = f.dst ∧ g.sport = f.sport ∧
      g.dport = f.dport ∧ g.firstSeen = f.firstSeen ∧ g.bucket = f.bucket

/-- 43_tcp_state_machine.md R196: along any step a stored flow's state never goes back in the order SYN < SYN_ACK <
ESTABLISHED < FIN < RST, never reaches CLOSE, and leaves SYN and SYN_ACK for good. -/
def Obligations.AFlowsStateNeverGoesBack : Prop :=
  ∀ (s t : State) (h : Nat) (f g : FlowRecord), s.Inv → step s = .next t →
    s.flowAt h = some f → t.flowAt h = some g → f.state.rank ≤ g.state.rank ∧ g.state ≠ .close

/-- The invariant of the machine (`State.Inv`: 10_state.md R29, R31, R32, R36, R39, and the canonical form of the
storage, log entry 9) holds after reset. -/
def Obligations.ResetMeetsTheInvariant : Prop := State.reset.Inv ∧ Memory.wf State.reset

/-- 10_state.md R32: every step keeps the invariant of the machine. -/
def Obligations.EveryStepKeepsTheInvariant : Prop :=
  ∀ s t : State, s.Inv → step s = .next t → t.Inv

/-- From a state that meets the invariant no step is a model fault (log entry 8), and the only refusal is of a host
access outside the interface (20_memory.md R71). -/
def Obligations.NoStepOfASoundStateIsStuck : Prop :=
  ∀ s : State, s.Inv →
    (∀ f, step s ≠ .fault f) ∧
    (∀ r, step s = .refused r →
      ∃ width offset, r = .accessOutsideInterface width offset ∧ (width ≠ 4 ∨ offset % 4 ≠ 0))

/-- 70_reset_and_hazards.md R247: a busy engine whose move is next completes its command in that one step, whatever the
command. That the engine moves when no turn is listed is the model's own form of fairness (log entry 2). -/
def Obligations.ABusyEngineCompletesAtItsMove : Prop :=
  ∀ (s : State) (ts : List Turn), s.Inv → s.busy = true → s.EngineNext ts →
    ∃ t, step s = .next t ∧ t.busy = false ∧ t.result ≠ .none ∧ t.turns = ts
end

