-- ==== Sys2Proof/Laws/State.lean ====
section
/-!
SUPPORT. One lemma per field of State per named update: what the field holds afterwards.
-/

namespace Sys2Proof.Machine

variable (s : State)

@[simp] theorem State.setFlow_params (h : Nat) (f : FlowRecord) : (s.setFlow h f).params = s.params := rfl
@[simp] theorem State.setFlow_alive (h : Nat) (f : FlowRecord) : (s.setFlow h f).alive = s.alive := rfl
@[simp] theorem State.setFlow_bucketCount (h : Nat) (f : FlowRecord) : (s.setFlow h f).bucketCount = s.bucketCount := rfl
@[simp] theorem State.setFlow_flowCount (h : Nat) (f : FlowRecord) : (s.setFlow h f).flowCount = s.flowCount := rfl
@[simp] theorem State.setFlow_flows (h : Nat) (f : FlowRecord) : (s.setFlow h f).flows = slotSet s.flows h f := rfl
@[simp] theorem State.setFlow_chains (h : Nat) (f : FlowRecord) : (s.setFlow h f).chains = s.chains := rfl
@[simp] theorem State.setFlow_fault (h : Nat) (f : FlowRecord) : (s.setFlow h f).fault = s.fault := rfl
@[simp] theorem State.setFlow_result (h : Nat) (f : FlowRecord) : (s.setFlow h f).result = s.result := rfl
@[simp] theorem State.setFlow_busy (h : Nat) (f : FlowRecord) : (s.setFlow h f).busy = s.busy := rfl
@[simp] theorem State.setFlow_latched (h : Nat) (f : FlowRecord) : (s.setFlow h f).latched = s.latched := rfl
@[simp] theorem State.setFlow_operands (h : Nat) (f : FlowRecord) : (s.setFlow h f).operands = s.operands := rfl
@[simp] theorem State.setFlow_resultHandle (h : Nat) (f : FlowRecord) : (s.setFlow h f).resultHandle = s.resultHandle := rfl
@[simp] theorem State.setFlow_resultBucket (h : Nat) (f : FlowRecord) : (s.setFlow h f).resultBucket = s.resultBucket := rfl
@[simp] theorem State.setFlow_program (h : Nat) (f : FlowRecord) : (s.setFlow h f).program = s.program := rfl
@[simp] theorem State.setFlow_turns (h : Nat) (f : FlowRecord) : (s.setFlow h f).turns = s.turns := rfl
@[simp] theorem State.setFlow_reads (h : Nat) (f : FlowRecord) : (s.setFlow h f).reads = s.reads := rfl

@[simp] theorem State.setChain_params (b : Nat) (c : List Handle) : (s.setChain b c).params = s.params := rfl
@[simp] theorem State.setChain_alive (b : Nat) (c : List Handle) : (s.setChain b c).alive = s.alive := rfl
@[simp] theorem State.setChain_bucketCount (b : Nat) (c : List Handle) : (s.setChain b c).bucketCount = s.bucketCount := rfl
@[simp] theorem State.setChain_flowCount (b : Nat) (c : List Handle) : (s.setChain b c).flowCount = s.flowCount := rfl
@[simp] theorem State.setChain_flows (b : Nat) (c : List Handle) : (s.setChain b c).flows = s.flows := rfl
@[simp] theorem State.setChain_chains (b : Nat) (c : List Handle) : (s.setChain b c).chains = if c = [] then slotErase s.chains b else slotSet s.chains b c := rfl
@[simp] theorem State.setChain_fault (b : Nat) (c : List Handle) : (s.setChain b c).fault = s.fault := rfl
@[simp] theorem State.setChain_result (b : Nat) (c : List Handle) : (s.setChain b c).result = s.result := rfl
@[simp] theorem State.setChain_busy (b : Nat) (c : List Handle) : (s.setChain b c).busy = s.busy := rfl
@[simp] theorem State.setChain_latched (b : Nat) (c : List Handle) : (s.setChain b c).latched = s.latched := rfl
@[simp] theorem State.setChain_operands (b : Nat) (c : List Handle) : (s.setChain b c).operands = s.operands := rfl
@[simp] theorem State.setChain_resultHandle (b : Nat) (c : List Handle) : (s.setChain b c).resultHandle = s.resultHandle := rfl
@[simp] theorem State.setChain_resultBucket (b : Nat) (c : List Handle) : (s.setChain b c).resultBucket = s.resultBucket := rfl
@[simp] theorem State.setChain_program (b : Nat) (c : List Handle) : (s.setChain b c).program = s.program := rfl
@[simp] theorem State.setChain_turns (b : Nat) (c : List Handle) : (s.setChain b c).turns = s.turns := rfl
@[simp] theorem State.setChain_reads (b : Nat) (c : List Handle) : (s.setChain b c).reads = s.reads := rfl

@[simp] theorem State.newIndex_params (n : Word) : (s.newIndex n).params = s.params := rfl
@[simp] theorem State.newIndex_alive (n : Word) : (s.newIndex n).alive = true := rfl
@[simp] theorem State.newIndex_bucketCount (n : Word) : (s.newIndex n).bucketCount = n := rfl
@[simp] theorem State.newIndex_flowCount (n : Word) : (s.newIndex n).flowCount = 0 := rfl
@[simp] theorem State.newIndex_flows (n : Word) : (s.newIndex n).flows = [] := rfl
@[simp] theorem State.newIndex_chains (n : Word) : (s.newIndex n).chains = [] := rfl
@[simp] theorem State.newIndex_fault (n : Word) : (s.newIndex n).fault = s.fault := rfl
@[simp] theorem State.newIndex_result (n : Word) : (s.newIndex n).result = s.result := rfl
@[simp] theorem State.newIndex_busy (n : Word) : (s.newIndex n).busy = s.busy := rfl
@[simp] theorem State.newIndex_latched (n : Word) : (s.newIndex n).latched = s.latched := rfl
@[simp] theorem State.newIndex_operands (n : Word) : (s.newIndex n).operands = s.operands := rfl
@[simp] theorem State.newIndex_resultHandle (n : Word) : (s.newIndex n).resultHandle = s.resultHandle := rfl
@[simp] theorem State.newIndex_resultBucket (n : Word) : (s.newIndex n).resultBucket = s.resultBucket := rfl
@[simp] theorem State.newIndex_program (n : Word) : (s.newIndex n).program = s.program := rfl
@[simp] theorem State.newIndex_turns (n : Word) : (s.newIndex n).turns = s.turns := rfl
@[simp] theorem State.newIndex_reads (n : Word) : (s.newIndex n).reads = s.reads := rfl

@[simp] theorem State.noIndex_params : (s.noIndex).params = s.params := rfl
@[simp] theorem State.noIndex_alive : (s.noIndex).alive = false := rfl
@[simp] theorem State.noIndex_bucketCount : (s.noIndex).bucketCount = 0 := rfl
@[simp] theorem State.noIndex_flowCount : (s.noIndex).flowCount = 0 := rfl
@[simp] theorem State.noIndex_flows : (s.noIndex).flows = [] := rfl
@[simp] theorem State.noIndex_chains : (s.noIndex).chains = [] := rfl
@[simp] theorem State.noIndex_fault : (s.noIndex).fault = s.fault := rfl
@[simp] theorem State.noIndex_result : (s.noIndex).result = s.result := rfl
@[simp] theorem State.noIndex_busy : (s.noIndex).busy = s.busy := rfl
@[simp] theorem State.noIndex_latched : (s.noIndex).latched = s.latched := rfl
@[simp] theorem State.noIndex_operands : (s.noIndex).operands = s.operands := rfl
@[simp] theorem State.noIndex_resultHandle : (s.noIndex).resultHandle = s.resultHandle := rfl
@[simp] theorem State.noIndex_resultBucket : (s.noIndex).resultBucket = s.resultBucket := rfl
@[simp] theorem State.noIndex_program : (s.noIndex).program = s.program := rfl
@[simp] theorem State.noIndex_turns : (s.noIndex).turns = s.turns := rfl
@[simp] theorem State.noIndex_reads : (s.noIndex).reads = s.reads := rfl

@[simp] theorem State.insertFlow_params (h : Handle) (f : FlowRecord) (b : Word) : (s.insertFlow h f b).params = s.params := rfl
@[simp] theorem State.insertFlow_alive (h : Handle) (f : FlowRecord) (b : Word) : (s.insertFlow h f b).alive = s.alive := rfl
@[simp] theorem State.insertFlow_bucketCount (h : Handle) (f : FlowRecord) (b : Word) : (s.insertFlow h f b).bucketCount = s.bucketCount := rfl
@[simp] theorem State.insertFlow_flowCount (h : Handle) (f : FlowRecord) (b : Word) : (s.insertFlow h f b).flowCount = h + 1 := rfl
@[simp] theorem State.insertFlow_flows (h : Handle) (f : FlowRecord) (b : Word) : (s.insertFlow h f b).flows = slotSet s.flows h.toNat f := rfl
@[simp] theorem State.insertFlow_chains (h : Handle) (f : FlowRecord) (b : Word) : (s.insertFlow h f b).chains = slotSet s.chains b.toNat (h :: s.chainAt b.toNat) := rfl
@[simp] theorem State.insertFlow_fault (h : Handle) (f : FlowRecord) (b : Word) : (s.insertFlow h f b).fault = s.fault := rfl
@[simp] theorem State.insertFlow_result (h : Handle) (f : FlowRecord) (b : Word) : (s.insertFlow h f b).result = s.result := rfl
@[simp] theorem State.insertFlow_busy (h : Handle) (f : FlowRecord) (b : Word) : (s.insertFlow h f b).busy = s.busy := rfl
@[simp] theorem State.insertFlow_latched (h : Handle) (f : FlowRecord) (b : Word) : (s.insertFlow h f b).latched = s.latched := rfl
@[simp] theorem State.insertFlow_operands (h : Handle) (f : FlowRecord) (b : Word) : (s.insertFlow h f b).operands = s.operands := rfl
@[simp] theorem State.insertFlow_resultHandle (h : Handle) (f : FlowRecord) (b : Word) : (s.insertFlow h f b).resultHandle = s.resultHandle := rfl
@[simp] theorem State.insertFlow_resultBucket (h : Handle) (f : FlowRecord) (b : Word) : (s.insertFlow h f b).resultBucket = s.resultBucket := rfl
@[simp] theorem State.insertFlow_program (h : Handle) (f : FlowRecord) (b : Word) : (s.insertFlow h f b).program = s.program := rfl
@[simp] theorem State.insertFlow_turns (h : Handle) (f : FlowRecord) (b : Word) : (s.insertFlow h f b).turns = s.turns := rfl
@[simp] theorem State.insertFlow_reads (h : Handle) (f : FlowRecord) (b : Word) : (s.insertFlow h f b).reads = s.reads := rfl

@[simp] theorem State.moveToFront_params (h : Handle) (b : Word) : (s.moveToFront h b).params = s.params := rfl
@[simp] theorem State.moveToFront_alive (h : Handle) (b : Word) : (s.moveToFront h b).alive = s.alive := rfl
@[simp] theorem State.moveToFront_bucketCount (h : Handle) (b : Word) : (s.moveToFront h b).bucketCount = s.bucketCount := rfl
@[simp] theorem State.moveToFront_flowCount (h : Handle) (b : Word) : (s.moveToFront h b).flowCount = s.flowCount := rfl
@[simp] theorem State.moveToFront_flows (h : Handle) (b : Word) : (s.moveToFront h b).flows = s.flows := rfl
@[simp] theorem State.moveToFront_chains (h : Handle) (b : Word) : (s.moveToFront h b).chains = slotSet s.chains b.toNat (h :: (s.chainAt b.toNat).erase h) := rfl
@[simp] theorem State.moveToFront_fault (h : Handle) (b : Word) : (s.moveToFront h b).fault = s.fault := rfl
@[simp] theorem State.moveToFront_result (h : Handle) (b : Word) : (s.moveToFront h b).result = s.result := rfl
@[simp] theorem State.moveToFront_busy (h : Handle) (b : Word) : (s.moveToFront h b).busy = s.busy := rfl
@[simp] theorem State.moveToFront_latched (h : Handle) (b : Word) : (s.moveToFront h b).latched = s.latched := rfl
@[simp] theorem State.moveToFront_operands (h : Handle) (b : Word) : (s.moveToFront h b).operands = s.operands := rfl
@[simp] theorem State.moveToFront_resultHandle (h : Handle) (b : Word) : (s.moveToFront h b).resultHandle = s.resultHandle := rfl
@[simp] theorem State.moveToFront_resultBucket (h : Handle) (b : Word) : (s.moveToFront h b).resultBucket = s.resultBucket := rfl
@[simp] theorem State.moveToFront_program (h : Handle) (b : Word) : (s.moveToFront h b).program = s.program := rfl
@[simp] theorem State.moveToFront_turns (h : Handle) (b : Word) : (s.moveToFront h b).turns = s.turns := rfl
@[simp] theorem State.moveToFront_reads (h : Handle) (b : Word) : (s.moveToFront h b).reads = s.reads := rfl

@[simp] theorem State.setResults_params (h : Handle) (b : Word) : (s.setResults h b).params = s.params := rfl
@[simp] theorem State.setResults_alive (h : Handle) (b : Word) : (s.setResults h b).alive = s.alive := rfl
@[simp] theorem State.setResults_bucketCount (h : Handle) (b : Word) : (s.setResults h b).bucketCount = s.bucketCount := rfl
@[simp] theorem State.setResults_flowCount (h : Handle) (b : Word) : (s.setResults h b).flowCount = s.flowCount := rfl
@[simp] theorem State.setResults_flows (h : Handle) (b : Word) : (s.setResults h b).flows = s.flows := rfl
@[simp] theorem State.setResults_chains (h : Handle) (b : Word) : (s.setResults h b).chains = s.chains := rfl
@[simp] theorem State.setResults_fault (h : Handle) (b : Word) : (s.setResults h b).fault = s.fault := rfl
@[simp] theorem State.setResults_result (h : Handle) (b : Word) : (s.setResults h b).result = s.result := rfl
@[simp] theorem State.setResults_busy (h : Handle) (b : Word) : (s.setResults h b).busy = s.busy := rfl
@[simp] theorem State.setResults_latched (h : Handle) (b : Word) : (s.setResults h b).latched = s.latched := rfl
@[simp] theorem State.setResults_operands (h : Handle) (b : Word) : (s.setResults h b).operands = s.operands := rfl
@[simp] theorem State.setResults_resultHandle (h : Handle) (b : Word) : (s.setResults h b).resultHandle = h := rfl
@[simp] theorem State.setResults_resultBucket (h : Handle) (b : Word) : (s.setResults h b).resultBucket = b := rfl
@[simp] theorem State.setResults_program (h : Handle) (b : Word) : (s.setResults h b).program = s.program := rfl
@[simp] theorem State.setResults_turns (h : Handle) (b : Word) : (s.setResults h b).turns = s.turns := rfl
@[simp] theorem State.setResults_reads (h : Handle) (b : Word) : (s.setResults h b).reads = s.reads := rfl

@[simp] theorem State.latchFault_params (c : FaultCode) : (s.latchFault c).params = s.params := rfl
@[simp] theorem State.latchFault_alive (c : FaultCode) : (s.latchFault c).alive = s.alive := rfl
@[simp] theorem State.latchFault_bucketCount (c : FaultCode) : (s.latchFault c).bucketCount = s.bucketCount := rfl
@[simp] theorem State.latchFault_flowCount (c : FaultCode) : (s.latchFault c).flowCount = s.flowCount := rfl
@[simp] theorem State.latchFault_flows (c : FaultCode) : (s.latchFault c).flows = s.flows := rfl
@[simp] theorem State.latchFault_chains (c : FaultCode) : (s.latchFault c).chains = s.chains := rfl
@[simp] theorem State.latchFault_fault (c : FaultCode) : (s.latchFault c).fault = if s.fault = .noFault then c else s.fault := rfl
@[simp] theorem State.latchFault_result (c : FaultCode) : (s.latchFault c).result = s.result := rfl
@[simp] theorem State.latchFault_busy (c : FaultCode) : (s.latchFault c).busy = s.busy := rfl
@[simp] theorem State.latchFault_latched (c : FaultCode) : (s.latchFault c).latched = s.latched := rfl
@[simp] theorem State.latchFault_operands (c : FaultCode) : (s.latchFault c).operands = s.operands := rfl
@[simp] theorem State.latchFault_resultHandle (c : FaultCode) : (s.latchFault c).resultHandle = s.resultHandle := rfl
@[simp] theorem State.latchFault_resultBucket (c : FaultCode) : (s.latchFault c).resultBucket = s.resultBucket := rfl
@[simp] theorem State.latchFault_program (c : FaultCode) : (s.latchFault c).program = s.program := rfl
@[simp] theorem State.latchFault_turns (c : FaultCode) : (s.latchFault c).turns = s.turns := rfl
@[simp] theorem State.latchFault_reads (c : FaultCode) : (s.latchFault c).reads = s.reads := rfl

@[simp] theorem State.finish_params (r : ResultCode) : (s.finish r).params = s.params := rfl
@[simp] theorem State.finish_alive (r : ResultCode) : (s.finish r).alive = s.alive := rfl
@[simp] theorem State.finish_bucketCount (r : ResultCode) : (s.finish r).bucketCount = s.bucketCount := rfl
@[simp] theorem State.finish_flowCount (r : ResultCode) : (s.finish r).flowCount = s.flowCount := rfl
@[simp] theorem State.finish_flows (r : ResultCode) : (s.finish r).flows = s.flows := rfl
@[simp] theorem State.finish_chains (r : ResultCode) : (s.finish r).chains = s.chains := rfl
@[simp] theorem State.finish_fault (r : ResultCode) : (s.finish r).fault = s.fault := rfl
@[simp] theorem State.finish_result (r : ResultCode) : (s.finish r).result = r := rfl
@[simp] theorem State.finish_busy (r : ResultCode) : (s.finish r).busy = false := rfl
@[simp] theorem State.finish_latched (r : ResultCode) : (s.finish r).latched = none := rfl
@[simp] theorem State.finish_operands (r : ResultCode) : (s.finish r).operands = s.operands := rfl
@[simp] theorem State.finish_resultHandle (r : ResultCode) : (s.finish r).resultHandle = s.resultHandle := rfl
@[simp] theorem State.finish_resultBucket (r : ResultCode) : (s.finish r).resultBucket = s.resultBucket := rfl
@[simp] theorem State.finish_program (r : ResultCode) : (s.finish r).program = s.program := rfl
@[simp] theorem State.finish_turns (r : ResultCode) : (s.finish r).turns = s.turns := rfl
@[simp] theorem State.finish_reads (r : ResultCode) : (s.finish r).reads = s.reads := rfl

@[simp] theorem State.raise_params (c : FaultCode) : (s.raise c).params = s.params := rfl
@[simp] theorem State.raise_alive (c : FaultCode) : (s.raise c).alive = s.alive := rfl
@[simp] theorem State.raise_bucketCount (c : FaultCode) : (s.raise c).bucketCount = s.bucketCount := rfl
@[simp] theorem State.raise_flowCount (c : FaultCode) : (s.raise c).flowCount = s.flowCount := rfl
@[simp] theorem State.raise_flows (c : FaultCode) : (s.raise c).flows = s.flows := rfl
@[simp] theorem State.raise_chains (c : FaultCode) : (s.raise c).chains = s.chains := rfl
@[simp] theorem State.raise_fault (c : FaultCode) : (s.raise c).fault = if s.fault = .noFault then c else s.fault := rfl
@[simp] theorem State.raise_result (c : FaultCode) : (s.raise c).result = .fault := rfl
@[simp] theorem State.raise_busy (c : FaultCode) : (s.raise c).busy = false := rfl
@[simp] theorem State.raise_latched (c : FaultCode) : (s.raise c).latched = none := rfl
@[simp] theorem State.raise_operands (c : FaultCode) : (s.raise c).operands = s.operands := rfl
@[simp] theorem State.raise_resultHandle (c : FaultCode) : (s.raise c).resultHandle = s.resultHandle := rfl
@[simp] theorem State.raise_resultBucket (c : FaultCode) : (s.raise c).resultBucket = s.resultBucket := rfl
@[simp] theorem State.raise_program (c : FaultCode) : (s.raise c).program = s.program := rfl
@[simp] theorem State.raise_turns (c : FaultCode) : (s.raise c).turns = s.turns := rfl
@[simp] theorem State.raise_reads (c : FaultCode) : (s.raise c).reads = s.reads := rfl

@[simp] theorem State.refuse_params : (s.refuse).params = s.params := rfl
@[simp] theorem State.refuse_alive : (s.refuse).alive = s.alive := rfl
@[simp] theorem State.refuse_bucketCount : (s.refuse).bucketCount = s.bucketCount := rfl
@[simp] theorem State.refuse_flowCount : (s.refuse).flowCount = s.flowCount := rfl
@[simp] theorem State.refuse_flows : (s.refuse).flows = s.flows := rfl
@[simp] theorem State.refuse_chains : (s.refuse).chains = s.chains := rfl
@[simp] theorem State.refuse_fault : (s.refuse).fault = s.fault := rfl
@[simp] theorem State.refuse_result : (s.refuse).result = .refused := rfl
@[simp] theorem State.refuse_busy : (s.refuse).busy = false := rfl
@[simp] theorem State.refuse_latched : (s.refuse).latched = none := rfl
@[simp] theorem State.refuse_operands : (s.refuse).operands = s.operands := rfl
@[simp] theorem State.refuse_resultHandle : (s.refuse).resultHandle = s.resultHandle := rfl
@[simp] theorem State.refuse_resultBucket : (s.refuse).resultBucket = s.resultBucket := rfl
@[simp] theorem State.refuse_program : (s.refuse).program = s.program := rfl
@[simp] theorem State.refuse_turns : (s.refuse).turns = s.turns := rfl
@[simp] theorem State.refuse_reads : (s.refuse).reads = s.reads := rfl

@[simp] theorem State.issue_params (cw : Word) : (s.issue cw).params = s.params := rfl
@[simp] theorem State.issue_alive (cw : Word) : (s.issue cw).alive = s.alive := rfl
@[simp] theorem State.issue_bucketCount (cw : Word) : (s.issue cw).bucketCount = s.bucketCount := rfl
@[simp] theorem State.issue_flowCount (cw : Word) : (s.issue cw).flowCount = s.flowCount := rfl
@[simp] theorem State.issue_flows (cw : Word) : (s.issue cw).flows = s.flows := rfl
@[simp] theorem State.issue_chains (cw : Word) : (s.issue cw).chains = s.chains := rfl
@[simp] theorem State.issue_fault (cw : Word) : (s.issue cw).fault = s.fault := rfl
@[simp] theorem State.issue_result (cw : Word) : (s.issue cw).result = s.result := rfl
@[simp] theorem State.issue_busy (cw : Word) : (s.issue cw).busy = true := rfl
@[simp] theorem State.issue_latched (cw : Word) : (s.issue cw).latched = some { cw := cw, operands := s.operands } := rfl
@[simp] theorem State.issue_operands (cw : Word) : (s.issue cw).operands = s.operands := rfl
@[simp] theorem State.issue_resultHandle (cw : Word) : (s.issue cw).resultHandle = s.resultHandle := rfl
@[simp] theorem State.issue_resultBucket (cw : Word) : (s.issue cw).resultBucket = s.resultBucket := rfl
@[simp] theorem State.issue_program (cw : Word) : (s.issue cw).program = s.program := rfl
@[simp] theorem State.issue_turns (cw : Word) : (s.issue cw).turns = s.turns := rfl
@[simp] theorem State.issue_reads (cw : Word) : (s.issue cw).reads = s.reads := rfl

@[simp] theorem State.resetEvent_params : (s.resetEvent).params = s.params := rfl
@[simp] theorem State.resetEvent_alive : (s.resetEvent).alive = false := rfl
@[simp] theorem State.resetEvent_bucketCount : (s.resetEvent).bucketCount = 0 := rfl
@[simp] theorem State.resetEvent_flowCount : (s.resetEvent).flowCount = 0 := rfl
@[simp] theorem State.resetEvent_flows : (s.resetEvent).flows = [] := rfl
@[simp] theorem State.resetEvent_chains : (s.resetEvent).chains = [] := rfl
@[simp] theorem State.resetEvent_fault : (s.resetEvent).fault = .noFault := rfl
@[simp] theorem State.resetEvent_result : (s.resetEvent).result = .none := rfl
@[simp] theorem State.resetEvent_busy : (s.resetEvent).busy = false := rfl
@[simp] theorem State.resetEvent_latched : (s.resetEvent).latched = none := rfl
@[simp] theorem State.resetEvent_operands : (s.resetEvent).operands = Operands.reset := rfl
@[simp] theorem State.resetEvent_resultHandle : (s.resetEvent).resultHandle = noHandle := rfl
@[simp] theorem State.resetEvent_resultBucket : (s.resetEvent).resultBucket = 0 := rfl
@[simp] theorem State.resetEvent_program : (s.resetEvent).program = s.program := rfl
@[simp] theorem State.resetEvent_turns : (s.resetEvent).turns = s.turns := rfl
@[simp] theorem State.resetEvent_reads : (s.resetEvent).reads = s.reads := rfl

@[simp] theorem State.latch_params (l : Snapshot) : (s.latch l).params = s.params := rfl
@[simp] theorem State.latch_alive (l : Snapshot) : (s.latch l).alive = s.alive := rfl
@[simp] theorem State.latch_bucketCount (l : Snapshot) : (s.latch l).bucketCount = s.bucketCount := rfl
@[simp] theorem State.latch_flowCount (l : Snapshot) : (s.latch l).flowCount = s.flowCount := rfl
@[simp] theorem State.latch_flows (l : Snapshot) : (s.latch l).flows = s.flows := rfl
@[simp] theorem State.latch_chains (l : Snapshot) : (s.latch l).chains = s.chains := rfl
@[simp] theorem State.latch_fault (l : Snapshot) : (s.latch l).fault = s.fault := rfl
@[simp] theorem State.latch_result (l : Snapshot) : (s.latch l).result = s.result := rfl
@[simp] theorem State.latch_busy (l : Snapshot) : (s.latch l).busy = true := rfl
@[simp] theorem State.latch_latched (l : Snapshot) : (s.latch l).latched = some l := rfl
@[simp] theorem State.latch_operands (l : Snapshot) : (s.latch l).operands = s.operands := rfl
@[simp] theorem State.latch_resultHandle (l : Snapshot) : (s.latch l).resultHandle = s.resultHandle := rfl
@[simp] theorem State.latch_resultBucket (l : Snapshot) : (s.latch l).resultBucket = s.resultBucket := rfl
@[simp] theorem State.latch_program (l : Snapshot) : (s.latch l).program = s.program := rfl
@[simp] theorem State.latch_turns (l : Snapshot) : (s.latch l).turns = s.turns := rfl
@[simp] theorem State.latch_reads (l : Snapshot) : (s.latch l).reads = s.reads := rfl

@[simp] theorem State.setOperands_params (o : Operands) : (s.setOperands o).params = s.params := rfl
@[simp] theorem State.setOperands_alive (o : Operands) : (s.setOperands o).alive = s.alive := rfl
@[simp] theorem State.setOperands_bucketCount (o : Operands) : (s.setOperands o).bucketCount = s.bucketCount := rfl
@[simp] theorem State.setOperands_flowCount (o : Operands) : (s.setOperands o).flowCount = s.flowCount := rfl
@[simp] theorem State.setOperands_flows (o : Operands) : (s.setOperands o).flows = s.flows := rfl
@[simp] theorem State.setOperands_chains (o : Operands) : (s.setOperands o).chains = s.chains := rfl
@[simp] theorem State.setOperands_fault (o : Operands) : (s.setOperands o).fault = s.fault := rfl
@[simp] theorem State.setOperands_result (o : Operands) : (s.setOperands o).result = s.result := rfl
@[simp] theorem State.setOperands_busy (o : Operands) : (s.setOperands o).busy = s.busy := rfl
@[simp] theorem State.setOperands_latched (o : Operands) : (s.setOperands o).latched = s.latched := rfl
@[simp] theorem State.setOperands_operands (o : Operands) : (s.setOperands o).operands = o := rfl
@[simp] theorem State.setOperands_resultHandle (o : Operands) : (s.setOperands o).resultHandle = s.resultHandle := rfl
@[simp] theorem State.setOperands_resultBucket (o : Operands) : (s.setOperands o).resultBucket = s.resultBucket := rfl
@[simp] theorem State.setOperands_program (o : Operands) : (s.setOperands o).program = s.program := rfl
@[simp] theorem State.setOperands_turns (o : Operands) : (s.setOperands o).turns = s.turns := rfl
@[simp] theorem State.setOperands_reads (o : Operands) : (s.setOperands o).reads = s.reads := rfl

@[simp] theorem State.setTurns_params (ts : List Turn) : (s.setTurns ts).params = s.params := rfl
@[simp] theorem State.setTurns_alive (ts : List Turn) : (s.setTurns ts).alive = s.alive := rfl
@[simp] theorem State.setTurns_bucketCount (ts : List Turn) : (s.setTurns ts).bucketCount = s.bucketCount := rfl
@[simp] theorem State.setTurns_flowCount (ts : List Turn) : (s.setTurns ts).flowCount = s.flowCount := rfl
@[simp] theorem State.setTurns_flows (ts : List Turn) : (s.setTurns ts).flows = s.flows := rfl
@[simp] theorem State.setTurns_chains (ts : List Turn) : (s.setTurns ts).chains = s.chains := rfl
@[simp] theorem State.setTurns_fault (ts : List Turn) : (s.setTurns ts).fault = s.fault := rfl
@[simp] theorem State.setTurns_result (ts : List Turn) : (s.setTurns ts).result = s.result := rfl
@[simp] theorem State.setTurns_busy (ts : List Turn) : (s.setTurns ts).busy = s.busy := rfl
@[simp] theorem State.setTurns_latched (ts : List Turn) : (s.setTurns ts).latched = s.latched := rfl
@[simp] theorem State.setTurns_operands (ts : List Turn) : (s.setTurns ts).operands = s.operands := rfl
@[simp] theorem State.setTurns_resultHandle (ts : List Turn) : (s.setTurns ts).resultHandle = s.resultHandle := rfl
@[simp] theorem State.setTurns_resultBucket (ts : List Turn) : (s.setTurns ts).resultBucket = s.resultBucket := rfl
@[simp] theorem State.setTurns_program (ts : List Turn) : (s.setTurns ts).program = s.program := rfl
@[simp] theorem State.setTurns_turns (ts : List Turn) : (s.setTurns ts).turns = ts := rfl
@[simp] theorem State.setTurns_reads (ts : List Turn) : (s.setTurns ts).reads = s.reads := rfl

@[simp] theorem State.setProgram_params (rest : List HostOp) : (s.setProgram rest).params = s.params := rfl
@[simp] theorem State.setProgram_alive (rest : List HostOp) : (s.setProgram rest).alive = s.alive := rfl
@[simp] theorem State.setProgram_bucketCount (rest : List HostOp) : (s.setProgram rest).bucketCount = s.bucketCount := rfl
@[simp] theorem State.setProgram_flowCount (rest : List HostOp) : (s.setProgram rest).flowCount = s.flowCount := rfl
@[simp] theorem State.setProgram_flows (rest : List HostOp) : (s.setProgram rest).flows = s.flows := rfl
@[simp] theorem State.setProgram_chains (rest : List HostOp) : (s.setProgram rest).chains = s.chains := rfl
@[simp] theorem State.setProgram_fault (rest : List HostOp) : (s.setProgram rest).fault = s.fault := rfl
@[simp] theorem State.setProgram_result (rest : List HostOp) : (s.setProgram rest).result = s.result := rfl
@[simp] theorem State.setProgram_busy (rest : List HostOp) : (s.setProgram rest).busy = s.busy := rfl
@[simp] theorem State.setProgram_latched (rest : List HostOp) : (s.setProgram rest).latched = s.latched := rfl
@[simp] theorem State.setProgram_operands (rest : List HostOp) : (s.setProgram rest).operands = s.operands := rfl
@[simp] theorem State.setProgram_resultHandle (rest : List HostOp) : (s.setProgram rest).resultHandle = s.resultHandle := rfl
@[simp] theorem State.setProgram_resultBucket (rest : List HostOp) : (s.setProgram rest).resultBucket = s.resultBucket := rfl
@[simp] theorem State.setProgram_program (rest : List HostOp) : (s.setProgram rest).program = rest := rfl
@[simp] theorem State.setProgram_turns (rest : List HostOp) : (s.setProgram rest).turns = s.turns := rfl
@[simp] theorem State.setProgram_reads (rest : List HostOp) : (s.setProgram rest).reads = s.reads := rfl

@[simp] theorem State.addRead_params (v : Word) : (s.addRead v).params = s.params := rfl
@[simp] theorem State.addRead_alive (v : Word) : (s.addRead v).alive = s.alive := rfl
@[simp] theorem State.addRead_bucketCount (v : Word) : (s.addRead v).bucketCount = s.bucketCount := rfl
@[simp] theorem State.addRead_flowCount (v : Word) : (s.addRead v).flowCount = s.flowCount := rfl
@[simp] theorem State.addRead_flows (v : Word) : (s.addRead v).flows = s.flows := rfl
@[simp] theorem State.addRead_chains (v : Word) : (s.addRead v).chains = s.chains := rfl
@[simp] theorem State.addRead_fault (v : Word) : (s.addRead v).fault = s.fault := rfl
@[simp] theorem State.addRead_result (v : Word) : (s.addRead v).result = s.result := rfl
@[simp] theorem State.addRead_busy (v : Word) : (s.addRead v).busy = s.busy := rfl
@[simp] theorem State.addRead_latched (v : Word) : (s.addRead v).latched = s.latched := rfl
@[simp] theorem State.addRead_operands (v : Word) : (s.addRead v).operands = s.operands := rfl
@[simp] theorem State.addRead_resultHandle (v : Word) : (s.addRead v).resultHandle = s.resultHandle := rfl
@[simp] theorem State.addRead_resultBucket (v : Word) : (s.addRead v).resultBucket = s.resultBucket := rfl
@[simp] theorem State.addRead_program (v : Word) : (s.addRead v).program = s.program := rfl
@[simp] theorem State.addRead_turns (v : Word) : (s.addRead v).turns = s.turns := rfl
@[simp] theorem State.addRead_reads (v : Word) : (s.addRead v).reads = v :: s.reads := rfl

end Sys2Proof.Machine
end

