-- ==== Sys2Proof/Laws/Command.lean ====
section
/-!
SUPPORT. What the frame shared by every command's meaning does (spec 70_reset_and_hazards.md R246, 60_exceptions.md
R213): each proof about a meaning cites these instead of unfolding it.
-/

namespace Sys2Proof.Machine

variable {s t : State} {l : Snapshot} {rule : Snapshot → Host.Outcome State Fault Refusal}

theorem State.faulted_eq_false : s.faulted = false ↔ s.fault = .noFault := by
  simp [State.faulted]

theorem State.faulted_eq_true : s.faulted = true ↔ s.fault ≠ .noFault := by
  simp [State.faulted]

/-- On a healthy engine with a latched snapshot a command is its own rule on the snapshot. -/
theorem State.command_eq_rule (hl : s.latched = some l) (hf : s.fault = .noFault) :
    s.command rule = rule l := by
  simp [State.command, hl, State.faulted, hf]

/-- A faulted engine refuses. -/
theorem State.command_eq_refuse (hl : s.latched = some l) (hf : s.fault ≠ .noFault) :
    s.command rule = .next s.refuse := by
  simp [State.command, hl, State.faulted, hf]

/-- All a command's completion can be, if it answers a next state: a refusal by a faulted engine, or the command's own
rule on the latched snapshot. -/
theorem State.command_next (h : s.command rule = .next t) :
    ∃ l, s.latched = some l ∧
      ((s.fault ≠ .noFault ∧ t = s.refuse) ∨ (s.fault = .noFault ∧ rule l = .next t)) := by
  unfold State.command at h
  split at h
  · cases h
  · rename_i l hl
    refine ⟨l, hl, ?_⟩
    split at h
    · rename_i hf
      exact .inl ⟨State.faulted_eq_true.mp hf, by cases h; rfl⟩
    · rename_i hf
      exact .inr ⟨State.faulted_eq_false.mp (by simpa using hf), h⟩

/-- A command stops with a model fault only for want of a snapshot or by its own rule. -/
theorem State.command_fault {f : Fault} (h : s.command rule = .fault f) :
    (s.latched = none ∧ f = .noSnapshot) ∨ ∃ l, s.latched = some l ∧ s.fault = .noFault ∧ rule l = .fault f := by
  unfold State.command at h
  split at h
  · exact .inl ⟨by assumption, by cases h; rfl⟩
  · rename_i l hl
    split at h
    · cases h
    · rename_i hf
      exact .inr ⟨l, hl, State.faulted_eq_false.mp (by simpa using hf), h⟩

end Sys2Proof.Machine
end

