-- ==== Sys2Proof/Laws/Storage.lean ====
section
/-!
SUPPORT. What the engine's storage operations do: read after write on the sparse tables, the flow store and the chains,
and that every one of them keeps the canonical form (log entry 9).
-/

namespace Sys2Proof.Machine

variable {α : Type}

/-! ### Sparse tables -/

theorem slotGet_slotSet_same (m : List (Nat × α)) (a : Nat) (v : α) :
    slotGet (slotSet m a v) a = some v := by
  induction m with
  | nil => simp [slotSet, slotGet]
  | cons c m ih =>
    obtain ⟨k, w⟩ := c
    by_cases h1 : a < k
    · simp [slotSet, slotGet, h1]
    · by_cases h2 : k = a <;> simp [slotSet, slotGet, h1, h2, ih]

theorem slotGet_slotSet_other (m : List (Nat × α)) {a b : Nat} (v : α) (h : b ≠ a) :
    slotGet (slotSet m a v) b = slotGet m b := by
  induction m with
  | nil => simp [slotSet, slotGet, h.symm]
  | cons c m ih =>
    obtain ⟨k, w⟩ := c
    by_cases h1 : a < k
    · simp [slotSet, slotGet, h1, h.symm]
    · by_cases h2 : k = a
      · subst h2; simp [slotSet, slotGet, h.symm]
      · simp [slotSet, slotGet, h1, h2, ih]

theorem slotGet_slotSet (m : List (Nat × α)) (a b : Nat) (v : α) :
    slotGet (slotSet m a v) b = if b = a then some v else slotGet m b := by
  by_cases h : b = a
  · subst h; simp [slotGet_slotSet_same]
  · simp [slotGet_slotSet_other m v h, h]

theorem slotGet_slotErase (m : List (Nat × α)) (a b : Nat) :
    slotGet (slotErase m a) b = if b = a then none else slotGet m b := by
  induction m with
  | nil => simp [slotErase, slotGet]
  | cons c m ih =>
    obtain ⟨k, w⟩ := c
    by_cases h1 : k = a
    · subst h1
      by_cases h2 : b = k
      · subst h2; simpa [slotErase] using ih
      · simp [slotErase, slotGet, ih, h2, Ne.symm h2]
    · by_cases h2 : b = a
      · subst h2; simp [slotErase, slotGet, ih, h1]
      · simp [slotErase, slotGet, ih, h1, h2]

theorem mem_keys_slotSet (m : List (Nat × α)) (a : Nat) (v : α) (k : Nat) :
    k ∈ (slotSet m a v).map Prod.fst ↔ k = a ∨ k ∈ m.map Prod.fst := by
  induction m with
  | nil => simp [slotSet]
  | cons c m ih =>
    obtain ⟨j, w⟩ := c
    by_cases h1 : a < j
    · simp [slotSet, h1]
    · by_cases h2 : j = a
      · subst h2; simp [slotSet]
      · simp only [slotSet, h1, h2, if_false, List.map_cons, List.mem_cons, ih]
        tauto

theorem mem_keys_slotErase (m : List (Nat × α)) (a k : Nat) :
    k ∈ (slotErase m a).map Prod.fst → k ∈ m.map Prod.fst := by
  induction m with
  | nil => simp [slotErase]
  | cons c m ih =>
    obtain ⟨j, w⟩ := c
    by_cases h : j = a
    · simp only [slotErase, h, if_true, List.map_cons, List.mem_cons]
      exact fun hk => .inr (ih hk)
    · simp only [slotErase, h, if_false, List.map_cons, List.mem_cons]
      exact Or.imp_right ih

theorem slotSet_wf {m : List (Nat × α)} (hm : Slots.wf m) (a : Nat) (v : α) : Slots.wf (slotSet m a v) := by
  induction m with
  | nil => simp [slotSet, Slots.wf]
  | cons c m ih =>
    obtain ⟨k, w⟩ := c
    obtain ⟨hk, hm⟩ := List.pairwise_cons.mp hm
    by_cases h1 : a < k
    · simp only [slotSet, h1, if_true, Slots.wf, List.map_cons, List.pairwise_cons, List.mem_cons]
      exact ⟨fun b hb => hb.elim (fun e => e ▸ h1) fun hb => h1.trans (hk b hb), hk, hm⟩
    · by_cases h2 : k = a
      · subst h2
        simp only [slotSet, h1, if_false, if_true, Slots.wf, List.map_cons, List.pairwise_cons]
        exact ⟨hk, hm⟩
      · simp only [slotSet, h1, h2, if_false, Slots.wf, List.map_cons, List.pairwise_cons]
        refine ⟨fun b hb => ?_, ih hm⟩
        obtain rfl | hb := (mem_keys_slotSet m a v b).mp hb
        · omega
        · exact hk b hb

theorem slotErase_wf {m : List (Nat × α)} (hm : Slots.wf m) (a : Nat) : Slots.wf (slotErase m a) := by
  induction m with
  | nil => exact hm
  | cons c m ih =>
    obtain ⟨k, w⟩ := c
    obtain ⟨hk, hm⟩ := List.pairwise_cons.mp hm
    by_cases h : k = a
    · simpa [slotErase, h] using ih hm
    · simp only [slotErase, h, if_false, Slots.wf, List.map_cons, List.pairwise_cons]
      exact ⟨fun b hb => hk b (mem_keys_slotErase m a b hb), ih hm⟩

theorem mem_slotSet {m : List (Nat × α)} {a : Nat} {v : α} {c : Nat × α} (h : c ∈ slotSet m a v) :
    c = (a, v) ∨ c ∈ m := by
  induction m with
  | nil => simpa [slotSet] using h
  | cons d m ih =>
    obtain ⟨k, w⟩ := d
    by_cases h1 : a < k
    · simp only [slotSet, h1, if_true, List.mem_cons] at h; simpa using h
    · by_cases h2 : k = a
      · simp only [slotSet, h2, lt_irrefl, if_false, if_true, List.mem_cons] at h ⊢; tauto
      · simp only [slotSet, h1, h2, if_false, List.mem_cons] at h ⊢
        rcases h with h | h
        · exact .inr (.inl h)
        · exact (ih h).imp_right .inr

theorem mem_slotErase {m : List (Nat × α)} {a : Nat} {c : Nat × α} (h : c ∈ slotErase m a) : c ∈ m := by
  induction m with
  | nil => exact h
  | cons d m ih =>
    obtain ⟨k, w⟩ := d
    by_cases h1 : k = a
    · simp only [slotErase, h1, if_true] at h; exact .tail _ (ih h)
    · simp only [slotErase, h1, if_false, List.mem_cons] at h ⊢; exact h.imp_right ih

/-! ### The flow store and the chains -/

theorem State.flowAt_setFlow (s : State) (a b : Nat) (f : FlowRecord) :
    (s.setFlow a f).flowAt b = if b = a then some f else s.flowAt b :=
  slotGet_slotSet s.flows a b f

theorem State.chainAt_setChain (s : State) (a b : Nat) (c : List Handle) :
    (s.setChain a c).chainAt b = if b = a then c else s.chainAt b := by
  unfold State.chainAt State.setChain
  by_cases hc : c = []
  · subst hc
    by_cases h : b = a <;> simp [slotGet_slotErase, h]
  · by_cases h : b = a <;> simp [slotGet_slotSet, hc, h]

theorem State.flowAt_insertFlow (s : State) (h : Handle) (f : FlowRecord) (b : Word) (k : Nat) :
    (s.insertFlow h f b).flowAt k = if k = h.toNat then some f else s.flowAt k :=
  slotGet_slotSet s.flows h.toNat k f

theorem State.chainAt_insertFlow (s : State) (h : Handle) (f : FlowRecord) (b : Word) (k : Nat) :
    (s.insertFlow h f b).chainAt k = if k = b.toNat then h :: s.chainAt b.toNat else s.chainAt k :=
  State.chainAt_setChain (s.setFlow h.toNat f) b.toNat k (h :: s.chainAt b.toNat)

theorem State.chainAt_moveToFront (s : State) (h : Handle) (b : Word) (k : Nat) :
    (s.moveToFront h b).chainAt k =
      if k = b.toNat then h :: (s.chainAt b.toNat).erase h else s.chainAt k :=
  State.chainAt_setChain s b.toNat k _

/-- Two states with the same flow store have the same flows. -/
theorem State.flowAt_congr {s t : State} (h : t.flows = s.flows) (k : Nat) : t.flowAt k = s.flowAt k := by
  simp [State.flowAt, h]

/-- Two states with the same chain store have the same chains. -/
theorem State.chainAt_congr {s t : State} (h : t.chains = s.chains) (k : Nat) : t.chainAt k = s.chainAt k := by
  simp [State.chainAt, h]

@[simp] theorem State.flowAt_moveToFront (s : State) (h : Handle) (b : Word) (k : Nat) :
    (s.moveToFront h b).flowAt k = s.flowAt k := rfl

@[simp] theorem State.chainAt_setFlow (s : State) (a : Nat) (f : FlowRecord) (k : Nat) :
    (s.setFlow a f).chainAt k = s.chainAt k := rfl

@[simp] theorem State.flowAt_finish (s : State) (r : ResultCode) (k : Nat) :
    (s.finish r).flowAt k = s.flowAt k := rfl

@[simp] theorem State.chainAt_finish (s : State) (r : ResultCode) (k : Nat) :
    (s.finish r).chainAt k = s.chainAt k := rfl

@[simp] theorem State.flowAt_raise (s : State) (c : FaultCode) (k : Nat) :
    (s.raise c).flowAt k = s.flowAt k := rfl

@[simp] theorem State.chainAt_raise (s : State) (c : FaultCode) (k : Nat) :
    (s.raise c).chainAt k = s.chainAt k := rfl

@[simp] theorem State.flowAt_setResults (s : State) (h : Handle) (b : Word) (k : Nat) :
    (s.setResults h b).flowAt k = s.flowAt k := rfl

@[simp] theorem State.chainAt_setResults (s : State) (h : Handle) (b : Word) (k : Nat) :
    (s.setResults h b).chainAt k = s.chainAt k := rfl

@[simp] theorem State.flowAt_newIndex (s : State) (n : Word) (k : Nat) : (s.newIndex n).flowAt k = none := rfl

@[simp] theorem State.chainAt_newIndex (s : State) (n : Word) (k : Nat) : (s.newIndex n).chainAt k = [] := rfl

@[simp] theorem State.flowAt_noIndex (s : State) (k : Nat) : s.noIndex.flowAt k = none := rfl

@[simp] theorem State.chainAt_noIndex (s : State) (k : Nat) : s.noIndex.chainAt k = [] := rfl

@[simp] theorem State.flowAt_resetEvent (s : State) (k : Nat) : s.resetEvent.flowAt k = none := rfl

@[simp] theorem State.chainAt_resetEvent (s : State) (k : Nat) : s.resetEvent.chainAt k = [] := rfl

@[simp] theorem State.flowAt_refuse (s : State) (k : Nat) : (s.refuse).flowAt k = s.flowAt k := rfl

@[simp] theorem State.chainAt_refuse (s : State) (k : Nat) : (s.refuse).chainAt k = s.chainAt k := rfl

@[simp] theorem State.flowAt_latchFault (s : State) (c : FaultCode) (k : Nat) : (s.latchFault c).flowAt k = s.flowAt k := rfl

@[simp] theorem State.chainAt_latchFault (s : State) (c : FaultCode) (k : Nat) : (s.latchFault c).chainAt k = s.chainAt k := rfl

@[simp] theorem State.flowAt_latch (s : State) (l : Snapshot) (k : Nat) : (s.latch l).flowAt k = s.flowAt k := rfl

@[simp] theorem State.chainAt_latch (s : State) (l : Snapshot) (k : Nat) : (s.latch l).chainAt k = s.chainAt k := rfl

@[simp] theorem State.flowAt_issue (s : State) (cw : Word) (k : Nat) : (s.issue cw).flowAt k = s.flowAt k := rfl

@[simp] theorem State.chainAt_issue (s : State) (cw : Word) (k : Nat) : (s.issue cw).chainAt k = s.chainAt k := rfl

@[simp] theorem State.flowAt_setOperands (s : State) (o : Operands) (k : Nat) : (s.setOperands o).flowAt k = s.flowAt k := rfl

@[simp] theorem State.chainAt_setOperands (s : State) (o : Operands) (k : Nat) : (s.setOperands o).chainAt k = s.chainAt k := rfl

@[simp] theorem State.flowAt_setTurns (s : State) (ts : List Turn) (k : Nat) : (s.setTurns ts).flowAt k = s.flowAt k := rfl

@[simp] theorem State.chainAt_setTurns (s : State) (ts : List Turn) (k : Nat) : (s.setTurns ts).chainAt k = s.chainAt k := rfl

@[simp] theorem State.flowAt_setProgram (s : State) (rest : List HostOp) (k : Nat) : (s.setProgram rest).flowAt k = s.flowAt k := rfl

@[simp] theorem State.chainAt_setProgram (s : State) (rest : List HostOp) (k : Nat) : (s.setProgram rest).chainAt k = s.chainAt k := rfl

@[simp] theorem State.flowAt_addRead (s : State) (v : Word) (k : Nat) : (s.addRead v).flowAt k = s.flowAt k := rfl

@[simp] theorem State.chainAt_addRead (s : State) (v : Word) (k : Nat) : (s.addRead v).chainAt k = s.chainAt k := rfl

/-! ### The canonical form -/

/-- The canonical form is a property of the two stores alone. -/
theorem Memory.wf_congr {s t : State} (hf : t.flows = s.flows) (hc : t.chains = s.chains) (h : Memory.wf s) :
    Memory.wf t := by
  unfold Memory.wf at *; rwa [hf, hc]

theorem Memory.wf_setFlow {s : State} (h : Memory.wf s) (a : Nat) (f : FlowRecord) :
    Memory.wf (s.setFlow a f) :=
  ⟨slotSet_wf h.1 a f, h.2.1, h.2.2⟩

theorem Memory.wf_setChain {s : State} (h : Memory.wf s) (a : Nat) (c : List Handle) :
    Memory.wf (s.setChain a c) := by
  obtain ⟨hf, hc, hne⟩ := h
  by_cases hnil : c = []
  · subst hnil
    exact ⟨hf, by simpa using slotErase_wf hc a, fun d hd => hne d (mem_slotErase (by simpa using hd))⟩
  · refine ⟨hf, by simpa [hnil] using slotSet_wf hc a c, fun d hd => ?_⟩
    obtain rfl | hd := mem_slotSet (by simpa [hnil] using hd)
    · exact hnil
    · exact hne d hd

theorem Memory.wf_insertFlow {s : State} (hw : Memory.wf s) (h : Handle) (f : FlowRecord) (b : Word) :
    Memory.wf (s.insertFlow h f b) :=
  Memory.wf_setChain (Memory.wf_setFlow hw h.toNat f) b.toNat (h :: s.chainAt b.toNat)

theorem Memory.wf_moveToFront {s : State} (hw : Memory.wf s) (h : Handle) (b : Word) :
    Memory.wf (s.moveToFront h b) :=
  Memory.wf_setChain hw b.toNat _

theorem Memory.wf_newIndex (s : State) (n : Word) : Memory.wf (s.newIndex n) := by
  simp [Memory.wf, Slots.wf]

theorem Memory.wf_noIndex (s : State) : Memory.wf s.noIndex := by
  simp [Memory.wf, Slots.wf]

theorem Memory.wf_resetEvent (s : State) : Memory.wf s.resetEvent := by
  simp [Memory.wf, Slots.wf]

theorem Memory.wf_reset : Memory.wf State.reset := by
  simp [Memory.wf, Slots.wf, State.reset, State.resetWith]

end Sys2Proof.Machine
end

