-- ==== Sys2Proof/Laws/Exec.lean ====
section
/-!
SUPPORT. Everything a completion step can do, said once (spec 40_flow_index.md, 60_exceptions.md R211): a proof about all
commands takes `exec_completed` apart by cases instead of unfolding the five meanings.
-/

namespace Sys2Proof.Machine

/-- The ways a command with snapshot `l` can take the state `s` to a next state. -/
inductive Completed (s : State) (l : Snapshot) : Instr → State → Prop
  /-- A faulted engine refuses (60_exceptions.md R213). -/
  | refused (i : Instr) (hf : s.fault ≠ .noFault) : Completed s l i s.refuse
  /-- A check of the command raises a fault (R214). -/
  | raised (i : Instr) (c : FaultCode) (hf : s.fault = .noFault) (hc : c ≠ .noFault) : Completed s l i (s.raise c)
  /-- CREATE of too many buckets (40_flow_index.md R110). -/
  | createNoResource (hf : s.fault = .noFault) (ha : s.alive = false)
      (hm : s.params.maxBuckets < l.operands.nbucketsIn) : Completed s l .create (s.finish .noResource)
  /-- CREATE of a new index (R110). -/
  | createOk (hf : s.fault = .noFault) (ha : s.alive = false) (hn : l.operands.nbucketsIn ≠ 0)
      (hm : ¬s.params.maxBuckets < l.operands.nbucketsIn) :
      Completed s l .create ((s.newIndex l.operands.nbucketsIn).finish .ok)
  /-- DESTROY of a live index (R112). -/
  | destroyOk (hf : s.fault = .noFault) (ha : s.alive = true) : Completed s l .destroy (s.noIndex.finish .ok)
  /-- LOOKUP that finds a match (R115). -/
  | lookupOk (l3 : L3Tag) (h : Handle) (b : Word) (hf : s.fault = .noFault) (ha : s.alive = true)
      (hs : l3.supported = true) (hb : b = bucketOf s.params (l.operands.tuple l3) s.bucketCount)
      (hh : (s.chainAt b.toNat).find? (s.slotMatches (l.operands.tuple l3)) = some h) :
      Completed s l (.lookup l3) ((s.setResults h b).finish .ok)
  /-- LOOKUP that finds none (R115). -/
  | lookupNotFound (l3 : L3Tag) (b : Word) (hf : s.fault = .noFault) (ha : s.alive = true)
      (hs : l3.supported = true) (hb : b = bucketOf s.params (l.operands.tuple l3) s.bucketCount)
      (hh : (s.chainAt b.toNat).find? (s.slotMatches (l.operands.tuple l3)) = none) :
      Completed s l (.lookup l3) ((s.setResults noHandle b).finish .notFound)
  /-- CREATE_FLOW at capacity (R124). -/
  | createFlowNoResource (l3 : L3Tag) (flags : Flags) (b : Word) (hf : s.fault = .noFault) (ha : s.alive = true)
      (hs : l3.supported = true) (hy : flags.syn = true) (hm : s.flowCount = s.params.maxFlows)
      (hb : b = bucketOf s.params (l.operands.tuple l3) s.bucketCount) :
      Completed s l (.createFlow l3 flags) ((s.setResults noHandle b).finish .noResource)
  /-- CREATE_FLOW of a new flow (R120). -/
  | createFlowOk (l3 : L3Tag) (flags : Flags) (b : Word) (hf : s.fault = .noFault) (ha : s.alive = true)
      (hs : l3.supported = true) (hy : flags.syn = true) (hm : s.flowCount ≠ s.params.maxFlows)
      (hb : b = bucketOf s.params (l.operands.tuple l3) s.bucketCount) :
      Completed s l (.createFlow l3 flags)
        (((s.insertFlow s.flowCount (newRecord (l.operands.tuple l3) flags l.operands b) b).setResults
          s.flowCount b).finish .ok)
  /-- UPDATE_FLOW of a stored flow (R127). -/
  | updateFlowOk (flags : Flags) (f : FlowRecord) (st : TcpState) (hf : s.fault = .noFault) (ha : s.alive = true)
      (hh : ¬s.flowCount ≤ l.operands.handleIn) (hr : s.flowAt l.operands.handleIn.toNat = some f)
      (hn : nextState f.state flags = some st) :
      Completed s l (.updateFlow flags)
        (((s.moveToFront l.operands.handleIn f.bucket).setFlow l.operands.handleIn.toNat
          (f.updated st l.operands)).finish .ok)

variable {s t : State} {l : Snapshot} {i : Instr}

theorem execCreate_completed (h : execCreate s = .next t) : ∃ l, s.latched = some l ∧ Completed s l .create t := by
  obtain ⟨l, hl, ⟨hf, rfl⟩ | ⟨hf, h⟩⟩ := State.command_next h
  · exact ⟨l, hl, .refused _ hf⟩
  refine ⟨l, hl, ?_⟩
  split at h
  · cases h; exact .raised _ _ hf (by decide)
  rename_i ha
  split at h
  · cases h; exact .raised _ _ hf (by decide)
  rename_i hn
  split at h <;> rename_i hm <;> cases h
  · exact .createNoResource hf (by simpa using ha) hm
  · exact .createOk hf (by simpa using ha) hn hm

theorem execDestroy_completed (h : execDestroy s = .next t) : ∃ l, s.latched = some l ∧ Completed s l .destroy t := by
  obtain ⟨l, hl, ⟨hf, rfl⟩ | ⟨hf, h⟩⟩ := State.command_next h
  · exact ⟨l, hl, .refused _ hf⟩
  refine ⟨l, hl, ?_⟩
  split at h <;> rename_i ha <;> cases h
  · exact .raised _ _ hf (by decide)
  · exact .destroyOk hf (by simpa using ha)

theorem execLookup_completed {l3 : L3Tag} (h : execLookup l3 s = .next t) :
    ∃ l, s.latched = some l ∧ Completed s l (.lookup l3) t := by
  obtain ⟨l, hl, ⟨hf, rfl⟩ | ⟨hf, h⟩⟩ := State.command_next h
  · exact ⟨l, hl, .refused _ hf⟩
  refine ⟨l, hl, ?_⟩
  split at h
  · cases h; exact .raised _ _ hf (by decide)
  rename_i ha
  split at h
  · cases h; exact .raised _ _ hf (by decide)
  rename_i hs
  dsimp only at h
  split at h <;> rename_i hh <;> cases h
  · exact .lookupOk l3 _ _ hf (by simpa using ha) (by simpa using hs) rfl hh
  · exact .lookupNotFound l3 _ hf (by simpa using ha) (by simpa using hs) rfl hh

theorem execCreateFlow_completed {l3 : L3Tag} {flags : Flags} (h : execCreateFlow l3 flags s = .next t) :
    ∃ l, s.latched = some l ∧ Completed s l (.createFlow l3 flags) t := by
  obtain ⟨l, hl, ⟨hf, rfl⟩ | ⟨hf, h⟩⟩ := State.command_next h
  · exact ⟨l, hl, .refused _ hf⟩
  refine ⟨l, hl, ?_⟩
  split at h
  · cases h; exact .raised _ _ hf (by decide)
  rename_i ha
  split at h
  · cases h; exact .raised _ _ hf (by decide)
  rename_i hs
  split at h
  · cases h; exact .raised _ _ hf (by decide)
  rename_i hy
  dsimp only at h
  split at h <;> rename_i hm <;> cases h
  · exact .createFlowNoResource l3 flags _ hf (by simpa using ha) (by simpa using hs) (by simpa using hy) hm rfl
  · exact .createFlowOk l3 flags _ hf (by simpa using ha) (by simpa using hs) (by simpa using hy) hm rfl

theorem execUpdateFlow_completed {flags : Flags} (h : execUpdateFlow flags s = .next t) :
    ∃ l, s.latched = some l ∧ Completed s l (.updateFlow flags) t := by
  obtain ⟨l, hl, ⟨hf, rfl⟩ | ⟨hf, h⟩⟩ := State.command_next h
  · exact ⟨l, hl, .refused _ hf⟩
  refine ⟨l, hl, ?_⟩
  dsimp only at h
  split at h
  · cases h; exact .raised _ _ hf (by decide)
  rename_i ha
  split at h
  · cases h; exact .raised _ _ hf (by decide)
  rename_i hh
  split at h
  · cases h
  rename_i f hr
  split at h <;> rename_i hn <;> cases h
  · exact .raised _ _ hf (by decide)
  · exact .updateFlowOk flags f _ hf (by simpa using ha) hh hr hn

/-- Everything a command's completion can be, if it answers a next state. -/
theorem exec_completed (h : exec i s = .next t) : ∃ l, s.latched = some l ∧ Completed s l i t := by
  cases i with
  | create => exact execCreate_completed h
  | destroy => exact execDestroy_completed h
  | lookup l3 => exact execLookup_completed h
  | createFlow l3 flags => exact execCreateFlow_completed h
  | updateFlow flags => exact execUpdateFlow_completed h

/-- No command's meaning refuses. -/
theorem exec_ne_refused (i : Instr) (s : State) (r : Refusal) : exec i s ≠ .refused r := by
  cases i <;>
    simp only [exec, execCreate, execDestroy, execLookup, execCreateFlow, execUpdateFlow, State.command] <;>
    repeat (first | split | simp)

/-- A command stops with a model fault only in a state with no snapshot, or when UPDATE_FLOW's handle names an empty
slot. -/
theorem exec_fault {f : Fault} (h : exec i s = .fault f) :
    (s.latched = none ∧ f = .noSnapshot) ∨
      (f = .emptySlot ∧ ∃ l, s.latched = some l ∧ s.alive = true ∧ ¬s.flowCount ≤ l.operands.handleIn ∧
        s.flowAt l.operands.handleIn.toNat = none) := by
  cases i <;> obtain h | ⟨l, hl, hf, h⟩ := State.command_fault h
  all_goals first | exact .inl h | skip
  case updateFlow.inr =>
    dsimp only at h
    split at h
    · cases h
    rename_i ha
    split at h
    · cases h
    rename_i hh
    split at h
    · rename_i hr; cases h
      exact .inr ⟨rfl, l, hl, by simpa using ha, hh, hr⟩
    · split at h <;> cases h
  all_goals
    exfalso
    try dsimp only at h
    repeat' split at h
    all_goals cases h

end Sys2Proof.Machine
end

