-- ==== Sys2Proof/Laws/Agents.lean ====
section
/-!
SUPPORT. What a host access and a step can do, said once (spec 20_memory.md R71 to R75, 70_reset_and_hazards.md R240 to
R246).
-/

namespace Sys2Proof.Machine

variable {s t : State}

/-! ### The window -/

@[simp] theorem regAt_regOffset (r : Reg) : regAt (regOffset r) = some r := by cases r <;> rfl

theorem regOffset_of_regAt {offset : Nat} {r : Reg} (h : regAt offset = some r) : regOffset r = offset := by
  simpa using List.find?_some h

@[simp] theorem viewFieldAt_viewFieldOffset (x : ViewField) : viewFieldAt (viewFieldOffset x) = some x := by
  cases x <;> rfl

theorem viewFieldOffset_of_viewFieldAt {offset : Nat} {x : ViewField} (h : viewFieldAt offset = some x) :
    viewFieldOffset x = offset := by
  simpa using List.find?_some h

theorem regOffset_lt (r : Reg) : regOffset r < 0x05C := by cases r <;> decide

theorem viewFieldOffset_lt (x : ViewField) : viewFieldOffset x < 0x4C := by cases x <;> decide

/-- The flow view depends on the index and the number of slots alone. -/
theorem State.readWord_view_congr (ha : t.alive = s.alive) (hc : t.flowCount = s.flowCount) (hf : t.flows = s.flows)
    (hp : t.params = s.params) {offset : Nat} (ho : viewBase ≤ offset) : t.readWord offset = s.readWord offset := by
  have hn : ¬offset < viewBase := by omega
  have hv : ∀ h, t.validFlow h = s.validFlow h := fun h => by
    simp only [State.validFlow, State.flowAt, ha, hc, hf]
  have hw : t.windowBytes = s.windowBytes := by simp only [State.windowBytes, hp]
  simp only [State.readWord, hn, if_false, hw, State.viewWord, hv]

/-- All a host write of a word can do: nothing, an operand register, an issue, or a collision. -/
theorem State.writeWord_cases (s : State) (offset : Nat) (v : Word) :
    s.writeWord offset v = s ∨
    (∃ r, regAt offset = some r ∧ r ≠ .cmd ∧ s.writeWord offset v = s.setOperands (s.operands.write v r)) ∨
    (offset = 0 ∧ s.busy = false ∧ s.writeWord offset v = s.issue v) ∨
    (offset = 0 ∧ s.busy = true ∧ s.writeWord offset v = s.latchFault .busyCollision) := by
  unfold State.writeWord
  cases hr : regAt offset with
  | none => exact .inl rfl
  | some r =>
    by_cases hc : r = .cmd
    · subst hc
      have h0 : offset = 0 := (regOffset_of_regAt hr).symm
      cases hb : s.busy
      · exact .inr (.inr (.inl ⟨h0, rfl, by simp [State.writeReg, State.writeCmd, hb]⟩))
      · exact .inr (.inr (.inr ⟨h0, rfl, by simp [State.writeReg, State.writeCmd, hb]⟩))
    · exact .inr (.inl ⟨r, rfl, hc, by simp [State.writeReg, hc]⟩)

/-! ### The host's move -/

/-- The ways the host's move can take the state `s` to a next state. -/
inductive HostMoved (s : State) : State → Prop
  /-- No access left. -/
  | idle (hp : s.program = []) : HostMoved s s
  /-- A read, or one read of a POLL. -/
  | read (offset : Nat) (rest : List HostOp) : HostMoved s ((s.setProgram rest).addRead (s.readWord offset))
  /-- A write. -/
  | write (offset : Nat) (v : Word) (rest : List HostOp) (hp : s.program = .write 4 offset v :: rest) :
      HostMoved s ((s.setProgram rest).writeWord offset v)

theorem hostMove_next (h : hostMove s = .next t) : HostMoved s t := by
  unfold hostMove at h
  split at h
  · cases h; exact .idle (by assumption)
  · split at h <;> cases h
    exact .read ..
  · rename_i width offset v rest hp
    split at h <;> rename_i ha <;> cases h
    have hw : width = 4 := by simp [accessInInterface] at ha; exact ha.1
    subst hw
    exact .write _ _ _ hp
  · cases h; exact .read ..

theorem hostMove_ne_fault (s : State) (f : Fault) : hostMove s ≠ .fault f := by
  unfold hostMove
  repeat' split
  all_goals simp

theorem hostMove_refused {r : Refusal} (h : hostMove s = .refused r) :
    ∃ width offset, r = .accessOutsideInterface width offset ∧ (width ≠ 4 ∨ offset % 4 ≠ 0) := by
  unfold hostMove at h
  split at h
  · cases h
  · rename_i width offset _ _
    split at h <;> rename_i ha <;> cases h
    exact ⟨width, offset, rfl, by simp [accessInInterface] at ha; tauto⟩
  · rename_i width offset _ _ _
    split at h <;> rename_i ha <;> cases h
    exact ⟨width, offset, rfl, by simp [accessInInterface] at ha; tauto⟩
  · cases h

/-! ### The step -/

/-- The ways a step can take the state `s` to a next state. `ts` are the turns left. -/
inductive Stepped (s : State) : State → Prop
  /-- The engine completes a legal command. -/
  | command (i : Instr) (l : Snapshot) (ts : List Turn) (t : State)
      (ht : s.EngineNext ts)
      (hb : s.busy = true) (hl : s.latched = some l) (hd : decode l.cw = .command i)
      (h : Completed (s.setTurns ts) l i t) : Stepped s t
  /-- The engine completes an illegal word. -/
  | illegal (l : Snapshot) (ts : List Turn) (ht : s.EngineNext ts)
      (hb : s.busy = true) (hl : s.latched = some l) (hf : s.fault = .noFault) :
      Stepped s ((s.setTurns ts).raise .illegalCommand)
  /-- The engine refuses an illegal word. -/
  | illegalRefused (l : Snapshot) (ts : List Turn) (ht : s.EngineNext ts)
      (hb : s.busy = true) (hl : s.latched = some l) (hf : s.fault ≠ .noFault) : Stepped s (s.setTurns ts).refuse
  /-- An engine turn while the engine is idle. -/
  | idle (ts : List Turn) (ht : s.turns = .engine :: ts) (hb : s.busy = false) : Stepped s (s.setTurns ts)
  /-- The host moves. -/
  | host (ts : List Turn) (t : State) (ht : s.HostNext ts)
      (h : HostMoved (s.setTurns ts) t) : Stepped s t
  /-- A reset event. -/
  | reset (ts : List Turn) (ht : s.turns = .reset :: ts) : Stepped s (s.setTurns ts).resetEvent

theorem State.setTurns_self {ts : List Turn} (h : s.turns = ts) : s.setTurns ts = s := by
  subst h; rfl

/-- The engine's move, run: what a step of a busy engine is. -/
def engineRun (s : State) : Host.Outcome State Fault Refusal :=
  match engineMove s with
  | .command i t => exec i t
  | .done o => o

theorem engineRun_next {u : State} {ts : List Turn} (hu : u = s.setTurns ts)
    (ht : s.EngineNext ts) (hb : s.busy = true)
    (h : engineRun u = .next t) : Stepped s t := by
  subst hu
  unfold engineRun engineMove at h
  cases hl : s.latched with
  | none => simp [hl] at h
  | some l =>
    simp only [State.setTurns_latched, hl] at h
    cases hd : decode l.cw with
    | command i =>
      simp only [hd] at h
      obtain ⟨l', hl', hc⟩ := exec_completed h
      obtain rfl : l' = l := by simpa [hl] using hl'.symm
      exact .command i l' ts t ht hb hl hd hc
    | illegal why =>
      simp only [hd] at h
      obtain ⟨_, _, ⟨hf, rfl⟩ | ⟨hf, h⟩⟩ := State.command_next h
      · exact .illegalRefused l ts ht hb hl hf
      · cases h; exact .illegal l ts ht hb hl hf

/-- Everything a step can do, if it answers a next state. -/
theorem step_stepped (h : step s = .next t) : Stepped s t := by
  unfold step nextMove at h
  cases ht : s.turns with
  | nil =>
    cases hb : s.busy with
    | true =>
      simp only [ht, hb, if_true] at h
      exact engineRun_next (State.setTurns_self ht).symm (.inl ⟨ht, rfl⟩) hb h
    | false =>
      simp only [ht, hb, Bool.false_eq_true, if_false] at h
      exact .host [] t (.inl ⟨ht, rfl, hb⟩) (hostMove_next (by rw [State.setTurns_self ht]; exact h))
  | cons turn ts =>
    cases turn with
    | host =>
      simp only [ht] at h
      exact .host ts t (.inr ht) (hostMove_next h)
    | engine =>
      cases hb : s.busy with
      | true =>
        simp only [ht, hb, if_true] at h
        exact engineRun_next rfl (.inr ht) hb h
      | false =>
        simp only [ht, hb, Bool.false_eq_true, if_false] at h
        cases h
        exact .idle ts ht hb
    | reset =>
      simp only [ht] at h
      cases h
      exact .reset ts ht

/-- A step is the engine's move, run, when the engine is busy and its turn is next. -/
theorem step_engine (hb : s.busy = true) {ts : List Turn} (ht : s.EngineNext ts) :
    step s = engineRun (s.setTurns ts) := by
  have hm : nextMove s = engineMove (s.setTurns ts) := by
    rcases ht with ⟨ht, rfl⟩ | ht
    · rw [State.setTurns_self ht]
      simp only [nextMove, ht, hb, if_true]
    · simp only [nextMove, ht, hb, if_true]
  cases he : engineMove (s.setTurns ts) <;> simp only [step, engineRun, hm, he]

/-- The completion step by the latched word: a legal word runs its command, an illegal one faults or is refused
(70_reset_and_hazards.md R246). -/
theorem step_completion {l : Snapshot} (hb : s.busy = true) (hl : s.latched = some l) {ts : List Turn}
    (ht : s.EngineNext ts) :
    step s =
      match decode l.cw with
      | .command i => exec i (s.setTurns ts)
      | .illegal _ => (s.setTurns ts).completeIllegal := by
  rw [step_engine hb ht, engineRun, engineMove, State.setTurns_latched, hl]
  cases hd : decode l.cw <;> simp only [hd]

/-- A step is the host's move when it is next. -/
theorem step_host {ts : List Turn} (ht : s.HostNext ts) : step s = hostMove (s.setTurns ts) := by
  rcases ht with ⟨ht, rfl, hb⟩ | ht
  · rw [State.setTurns_self ht]
    simp only [step, nextMove, ht, hb, Bool.false_eq_true, if_false]
  · simp only [step, nextMove, ht]

end Sys2Proof.Machine
end

