-- ==== Sys2Proof/Laws/PerInstr.lean ====
section
/-!
SUPPORT. Facts said once per command: the family TableRow, that the assembled word of a command is one its own row of
the opcode table selects (spec 30_encoding.md R96).
-/

namespace Sys2Proof.Laws.TableRow

/-- The assembled word of `i`, under the mask every row has, is the match value of `i`'s row. -/
def Statement (i : Instr) : Prop := encode i &&& 0xFFFFFC0F#32 = i.op.setWidth 32

theorem word_selected (op flags : BitVec 4) (l3 : BitVec 2) :
    commandWord op flags l3 &&& 0xFFFFFC0F#32 = op.setWidth 32 := by
  revert op flags l3; decide

theorem create : Statement .create := word_selected _ _ _

theorem destroy : Statement .destroy := word_selected _ _ _

theorem lookup (l3 : L3Tag) : Statement (.lookup l3) := word_selected _ _ _

theorem createFlow (l3 : L3Tag) (flags : Flags) : Statement (.createFlow l3 flags) := word_selected _ _ _

theorem updateFlow (flags : Flags) : Statement (.updateFlow flags) := word_selected _ _ _

end Sys2Proof.Laws.TableRow
end

