-- ==== Sys2Proof/Laws/Units.lean ====
section
/-!
SUPPORT. Small facts about the Hasher, the Matcher and the TCP State Machine (spec 41_hasher.md, 42_matcher.md,
43_tcp_state_machine.md).
-/

namespace Sys2Proof.Machine

/-- CLOSE alone has no transition (43_tcp_state_machine.md R194). -/
theorem nextState_eq_none {st : TcpState} {f : Flags} : nextState st f = none ↔ st = .close := by
  obtain ⟨a, b, c, d⟩ := f
  cases st <;> cases a <;> cases b <;> cases c <;> cases d <;> simp [nextState]

/-- No transition reaches CLOSE (43_tcp_state_machine.md R186). -/
theorem nextState_ne_close (st : TcpState) (f : Flags) : nextState st f ≠ some .close := by
  obtain ⟨a, b, c, d⟩ := f
  cases st <;> cases a <;> cases b <;> cases c <;> cases d <;> simp [nextState]

theorem initialState_ne_close (f : Flags) : initialState f ≠ .close := by
  unfold initialState; split <;> simp

/-- Address equality is equality (42_matcher.md R171). -/
theorem addrEq_iff (x y : Addr) : addrEq x y = true ↔ x = y := by
  cases x <;> cases y <;> simp [addrEq, and_assoc]

@[simp] theorem FiveTuple.reverse_reverse (t : FiveTuple) : t.reverse.reverse = t := rfl

theorem newRecord_tuple (t : FiveTuple) (flags : Flags) (o : Operands) (b : Word) :
    (newRecord t flags o b).tuple = t := rfl

theorem FlowRecord.updated_tuple (f : FlowRecord) (st : TcpState) (o : Operands) : (f.updated st o).tuple = f.tuple :=
  rfl

/-- The packet's addresses have the packet's tag when the tag is supported (10_state.md R40). -/
theorem Operands.tuple_hasTag (o : Operands) {l3 : L3Tag} (h : l3.supported = true) :
    (o.tuple l3).src.hasTag l3 = true ∧ (o.tuple l3).dst.hasTag l3 = true := by
  cases l3 <;> simp [L3Tag.supported] at h <;> simp [Operands.tuple, addrOf, Addr.hasTag]

end Sys2Proof.Machine
end

