-- ==== Sys2Proof/Machine/HostProgram.lean ====
section
/-!
DEFINITION. The assembler's host lines and their expansions into host accesses (spec 30_encoding.md R97, R98).
-/

namespace Sys2Proof.Machine

/-- A line of a host program (30_encoding.md R97, R98). -/
inductive HostLine where
  /-- `WR <REG>, <imm32>`. -/
  | wr (r : Reg) (v : Word)
  /-- `RD <REG>`. -/
  | rd (r : Reg)
  /-- `RDV <h>, <FIELD>`. -/
  | rdv (h : Nat) (x : ViewField)
  /-- `POLL`. -/
  | poll
  /-- `PKT4 src:p -> dst:q, ts=T, len=L`. -/
  | pkt4 (src : Word) (p : Port) (dst : Word) (q : Port) (ts : Timestamp) (len : Word)
  /-- `PKT6 S0:S1:S2:S3/p -> D0:D1:D2:D3/q, ts=T, len=L`. -/
  | pkt6 (s0 s1 s2 s3 : Word) (p : Port) (d0 d1 d2 d3 : Word) (q : Port) (ts : Timestamp) (len : Word)
  /-- `HANDLE h`. -/
  | handle (h : Handle)
  /-- `NBUCKETS n`. -/
  | nbuckets (n : Word)
  /-- A command line: its word written to CMD, then POLL. -/
  | command (i : Instr)
  /-- `.cmd <imm32>` as a command line. -/
  | rawCommand (w : Word)
  /-- `ISSUE <command>`: the CMD write alone. -/
  | issue (w : Word)
  deriving DecidableEq, Repr

/-- `WR` of a register as a host access (30_encoding.md R98). -/
def wrOp (r : Reg) (v : Word) : HostOp := .write 4 (regOffset r) v

/-- The writes of the packet fields that PKT4 and PKT6 share (30_encoding.md R98). -/
def packetOps (p q : Port) (ts : Timestamp) (len : Word) : List HostOp :=
  [wrOp .ports (q ++ p), wrOp .tsLo (loWord ts), wrOp .tsHi (hiWord ts), wrOp .wireLen len]

/-- The expansion of a line (30_encoding.md R97, R98). -/
def HostLine.expand : HostLine → List HostOp
  | .wr r v => [wrOp r v]
  | .rd r => [.read 4 (regOffset r)]
  | .rdv h x => [.read 4 (recordOffset h + viewFieldOffset x)]
  | .poll => [.poll]
  | .pkt4 src p dst q ts len => [wrOp .srcAddr0 src, wrOp .dstAddr0 dst] ++ packetOps p q ts len
  | .pkt6 s0 s1 s2 s3 p d0 d1 d2 d3 q ts len =>
    [wrOp .srcAddr0 s0, wrOp .srcAddr1 s1, wrOp .srcAddr2 s2, wrOp .srcAddr3 s3,
      wrOp .dstAddr0 d0, wrOp .dstAddr1 d1, wrOp .dstAddr2 d2, wrOp .dstAddr3 d3] ++ packetOps p q ts len
  | .handle h => [wrOp .handleIn h]
  | .nbuckets n => [wrOp .nbucketsIn n]
  | .command i => [wrOp .cmd (encode i), .poll]
  | .rawCommand w => [wrOp .cmd w, .poll]
  | .issue w => [wrOp .cmd w]

/-- The accesses of a host program, line by line. -/
def assemble (lines : List HostLine) : List HostOp := lines.flatMap HostLine.expand

/-- A run's start: an instance with parameters `p` after reset, a host program to perform and an interleaving
(95_test_vectors.md L3; log entry 1). -/
def State.load (p : Params) (lines : List HostLine) (turns : List Turn) : State :=
  { State.resetWith p with program := assemble lines, turns := turns }

end Sys2Proof.Machine
end

