-- ==== Sys2Proof/Tests/Slice0.lean ====
section
/-!
SUPPORT. The model's own tests: well-formedness, words written out from spec 30_encoding.md, vectors of 95_test_vectors.md,
and one witness per statement that has hypotheses.
-/

namespace Sys2Proof.Tests

open Sys2Proof.Machine

/-! ### Well-formedness: an ill-formed term for each check -/

/-- 00_scope.md R6: MAX_BUCKETS is at least 1. -/
theorem test_params_no_buckets :
    (Params.mk 0 8 10 6 .oneAtATime).wellFormed = false ∧ (Params.mk 1 8 10 6 .oneAtATime).wellFormed = true := by
  decide

/-- 00_scope.md R6: MAX_FLOWS is at least 1. -/
theorem test_params_no_flows :
    (Params.mk 4096 0 10 6 .oneAtATime).wellFormed = false ∧ (Params.mk 4096 1 10 6 .oneAtATime).wellFormed = true := by
  decide

/-- 20_memory.md R71: widths 1, 2 and 8 and misaligned offsets are outside the interface. -/
theorem test_access_widths :
    accessInInterface 1 0x010 = false ∧ accessInInterface 2 0x010 = false ∧ accessInInterface 8 0x010 = false ∧
      accessInInterface 4 0x011 = false ∧ accessInInterface 4 0x012 = false ∧ accessInInterface 4 0x010 = true := by
  decide

/-! ### Decoding: words written out bit by bit, RSV L3 RST FIN ACK SYN OP (30_encoding.md R91, R93) -/

/-- 0x00000001 and 0x000003F1 (R99): CREATE ignores FLAGS and L3. -/
theorem test_decode_create :
    decode 0b0000000000000000000000_00_0000_0001#32 = .command .create ∧
      decode 0b0000000000000000000000_11_1111_0001#32 = .command .create := by
  decide

/-- 0x00000002 (R99). -/
theorem test_decode_destroy :
    decode 0b0000000000000000000000_00_0000_0010#32 = .command .destroy ∧
      decode 0b0000000000000000000000_10_0101_0010#32 = .command .destroy := by
  decide

/-- 0x00000103 and 0x000000F3 (R99, 95_test_vectors.md L2.1). -/
theorem test_decode_lookup :
    decode 0b0000000000000000000000_01_0000_0011#32 = .command (.lookup .ipv6) ∧
      decode 0b0000000000000000000000_00_1111_0011#32 = .command (.lookup .ipv4) ∧
      decode 0b0000000000000000000000_11_0000_0011#32 = .command (.lookup .other3) := by
  decide

/-- 0x00000134 and 0x000000D4 (L2.1): SYN|ACK over IPv6; SYN|FIN|RST. -/
theorem test_decode_createFlow :
    decode 0b0000000000000000000000_01_0011_0100#32 = .command (.createFlow .ipv6 ⟨true, true, false, false⟩) ∧
      decode 0b0000000000000000000000_00_1101_0100#32 = .command (.createFlow .ipv4 ⟨true, false, true, true⟩) := by
  decide

/-- 0x00000325 (L2.1) and 0x00000045 (R99): L3 ignored; FIN is bit 6. -/
theorem test_decode_updateFlow :
    decode 0b0000000000000000000000_11_0010_0101#32 = .command (.updateFlow ⟨false, true, false, false⟩) ∧
      decode 0b0000000000000000000000_00_0100_0101#32 = .command (.updateFlow ⟨false, false, true, false⟩) := by
  decide

/-- OP 0, 6 and 15, and RSV bits 10 and 31 (L2.1). -/
theorem test_decode_illegal :
    decode 0x00000000#32 = .illegal .unassignedOp ∧ decode 0x00000006#32 = .illegal .unassignedOp ∧
      decode 0x0000000F#32 = .illegal .unassignedOp ∧ decode 0x00000401#32 = .illegal .reservedBits ∧
      decode 0x80000003#32 = .illegal .reservedBits ∧ decodeBytes [1, 0, 0] = (.illegal .truncated, [1, 0, 0]) := by
  decide

/-- The assembled words of R99. -/
theorem test_encode :
    encode .create = 0x00000001 ∧ encode .destroy = 0x00000002 ∧ encode (.lookup .other2) = 0x00000203 ∧
      encode (.createFlow .ipv6 ⟨true, false, false, false⟩) = 0x00000114 ∧
      encode (.updateFlow ⟨false, true, true, false⟩) = 0x00000065 := by
  decide

/-- The table's words, lane by lane. -/
theorem test_decodeTableWord :
    decodeTableWord 32 0x00000001 = some .create ∧ decodeTableWord 32 0x00000000 = none ∧
      decodeTableWord 8 0x02 = some .destroy := by
  decide

/-! ### The units -/

/-- MAX_BUCKETS = 4096, MAX_FLOWS = 8 and the default FINAL_MIX (95_test_vectors.md L2.5). -/
def params8 : Params := ⟨4096, 8, 10, 6, .oneAtATime⟩

/-- 41_hasher.md R153, R155. -/
theorem test_mix_and_final :
    mix params8 0 0x01 = 0x00000411 ∧ mix params8 0 0x80 = 0x00020882 ∧ mix params8 0 0xFF = 0x0003F30C ∧
      finalMixDefault 1 = 0x00048009 ∧ finalMixDefault 0xFFFFFFFF = 0xFFE40008 := by
  decide

/-- 95_test_vectors.md L2.2: both sides of row H1. -/
theorem test_side_hash :
    sideHash params8 0x0A000001 1234 = 0xF992B954 ∧ sideHash params8 0x0A000002 80 = 0x3BAAD02B := by
  decide

/-- 95_test_vectors.md L2.2, rows H1, H7 and H11. -/
theorem test_bucket :
    bucketOf params8 ⟨.ipv4, .v4 0x0A000001, .v4 0x0A000002, 1234, 80⟩ 1024 = 77 ∧
      bucketOf params8 ⟨.ipv4, .v4 0x0A000001, .v4 0x0A000002, 80, 1234⟩ 1024 = 897 ∧
      bucketOf params8 ⟨.ipv6, .v6 0 0 0 0x20010DB9, .v6 0x20010DB8 0 0 2, 5000, 22⟩ 7 = 1 := by
  decide

/-- 95_test_vectors.md L2.4, rows T2, T4, T6, T7 and T12. -/
theorem test_transitions :
    nextState .syn ⟨true, false, false, false⟩ = some .established ∧
      nextState .syn ⟨true, true, true, true⟩ = some .synAck ∧
      nextState .syn ⟨false, false, true, true⟩ = some .fin ∧
      nextState .synAck ⟨true, true, false, false⟩ = some .established ∧
      nextState .fin ⟨false, false, true, true⟩ = some .rst ∧ nextState .close ⟨false, true, false, false⟩ = none := by
  decide

/-! ### Small states -/

/-- The packet 10.0.0.1:1234 -> 10.0.0.2:80, ts 1, len 60 (95_test_vectors.md P1), with NBUCKETS_IN = 1024. -/
def packetA : Operands :=
  { Operands.reset with
    srcAddr0 := networkWord 10 0 0 1, dstAddr0 := networkWord 10 0 0 2, ports := 0x005004D2, tsLo := 1, wireLen := 60
    nbucketsIn := 1024 }

/-- The reply 10.0.0.2:80 -> 10.0.0.1:1234, ts 2, len 60 (P1). -/
def packetB : Operands :=
  { packetA with
    srcAddr0 := networkWord 10 0 0 2, dstAddr0 := networkWord 10 0 0 1, ports := 0x04D20050, tsLo := 2 }

/-- The flow of packet A in slot 0 (vector CF1). -/
def flowA : FlowRecord :=
  { l3 := .ipv4, src := .v4 0x0A000001, dst := .v4 0x0A000002, sport := 1234, dport := 80, state := .syn
    firstSeen := 1, lastSeen := 1, byteCount := 60, packetCount := 1, bucket := 77 }

/-- After reset, with the parameters above. -/
def dead : State := State.resetWith params8

/-- Index(1024) with no flow. -/
def live : State := { dead with alive := true, bucketCount := 1024, result := .ok }

/-- Index(1024) with flow A. -/
def one : State := { live with flowCount := 1, flows := [(0, flowA)], chains := [(77, [0])] }

/-- The same, faulted. -/
def faulted : State := { one with fault := .invalidHandle, result := .fault }

/-- Index(1024) at capacity: MAX_FLOWS = 1. -/
def full : State := { one with params := ⟨4096, 1, 10, 6, .oneAtATime⟩ }

/-- A state no run reaches: flow A in CLOSE. -/
def closed : State := { one with flows := [(0, { flowA with state := .close })] }

def syn : Flags := ⟨true, false, false, false⟩
def ack : Flags := ⟨false, true, false, false⟩
def synAck : Flags := ⟨true, true, false, false⟩

/-- A command in flight on a packet. -/
def running (s : State) (i : Instr) (o : Operands) : State := s.latch ⟨encode i, o⟩

/-- STATUS, RESULT_HANDLE and RESULT_BUCKET after the completion step. -/
def observed (o : Host.Outcome State Fault Refusal) : Option (Word × Word × Word) :=
  match o with
  | .next t => some (t.readWord 0x004, t.readWord 0x008, t.readWord 0x00C)
  | .fault _ => none
  | .refused _ => none

/-- The words of slot 0 that change: META, LAST_SEEN_LO, BYTE_COUNT_LO, PACKET_COUNT_LO. -/
def slotZero (o : Host.Outcome State Fault Refusal) : Option (Word × Word × Word × Word) :=
  match o with
  | .next t => some (t.readWord 0x1000, t.readWord 0x1030, t.readWord 0x1038, t.readWord 0x1040)
  | .fault _ => none
  | .refused _ => none

/-! ### One step per instruction (95_test_vectors.md L2.5) -/

/-- CR1 and CR4's boundary n = MAX_BUCKETS. -/
theorem test_create :
    observed (step (running dead .create packetA)) = some (0x00000014, 0xFFFFFFFF, 0) ∧
      observed (step (running dead .create { packetA with nbucketsIn := 4096 })) =
        some (0x00000014, 0xFFFFFFFF, 0) := by
  decide

/-- CR2, CR3 and CR5. -/
theorem test_create_turned_away :
    observed (step (running dead .create Operands.reset)) = some (0x00000542, 0xFFFFFFFF, 0) ∧
      observed (step (running dead .create { packetA with nbucketsIn := 5000 })) =
        some (0x00000030, 0xFFFFFFFF, 0) ∧
      observed (step (running live .create packetA)) = some (0x00000446, 0xFFFFFFFF, 0) := by
  decide

/-- DE1 and DE2. -/
theorem test_destroy :
    observed (step (running dead .destroy packetA)) = some (0x00000342, 0xFFFFFFFF, 0) ∧
      observed (step (running one .destroy packetA)) = some (0x00000010, 0xFFFFFFFF, 0) ∧
      slotZero (step (running one .destroy packetA)) = some (0, 0, 0, 0) := by
  decide

/-- LK2 and LK3. -/
theorem test_lookup :
    observed (step (running live (.lookup .ipv4) packetA)) = some (0x00000024, 0xFFFFFFFF, 77) ∧
      observed (step (running one (.lookup .ipv4) packetB)) = some (0x00000014, 0, 77) := by
  decide

/-- LK1 and LK5. -/
theorem test_lookup_faults :
    observed (step (running dead (.lookup .ipv4) packetA)) = some (0x00000342, 0xFFFFFFFF, 0) ∧
      observed (step (running live (.lookup .other2) packetA)) = some (0x00000646, 0xFFFFFFFF, 0) := by
  decide

/-- CF1 and CF2. -/
theorem test_createFlow :
    slotZero (step (running live (.createFlow .ipv4 syn) packetA)) = some (0x00000001, 1, 60, 1) ∧
      slotZero (step (running live (.createFlow .ipv4 synAck) packetA)) = some (0x00000101, 1, 60, 1) ∧
      observed (step (running live (.createFlow .ipv4 syn) packetA)) = some (0x00000014, 0, 77) := by
  decide

/-- CF4 to CF7 (CF7's bucket is packet A's here). -/
theorem test_createFlow_turned_away :
    observed (step (running dead (.createFlow .ipv4 syn) packetA)) = some (0x00000342, 0xFFFFFFFF, 0) ∧
      observed (step (running live (.createFlow .ipv4 ack) packetA)) = some (0x00000746, 0xFFFFFFFF, 0) ∧
      observed (step (running live (.createFlow .other3 ack) packetA)) = some (0x00000646, 0xFFFFFFFF, 0) ∧
      observed (step (running full (.createFlow .ipv4 syn) packetA)) = some (0x00000034, 0xFFFFFFFF, 77) := by
  decide

/-- UF1. -/
theorem test_updateFlow :
    slotZero (step (running one (.updateFlow synAck) packetB)) = some (0x00000101, 2, 120, 2) := by
  decide

/-- UF4 and UF5, and the CLOSE row of the transition table. -/
theorem test_updateFlow_faults :
    observed (step (running one (.updateFlow ack) { packetB with handleIn := 0xFFFFFFFF })) =
        some (0x00000846, 0xFFFFFFFF, 0) ∧
      observed (step (running dead (.updateFlow ack) packetB)) = some (0x00000342, 0xFFFFFFFF, 0) ∧
      observed (step (running closed (.updateFlow ack) packetB)) = some (0x00000946, 0xFFFFFFFF, 0) := by
  decide

/-- X1 and X2: an illegal word, and a command on a faulted engine. -/
theorem test_illegal_and_refused :
    observed (step (dead.issue 0x00000006)) = some (0x00000142, 0xFFFFFFFF, 0) ∧
      observed (step (running faulted .create packetA)) = some (0x00000856, 0xFFFFFFFF, 0) := by
  decide

/-- P3 part C: a second CMD write while BUSY. -/
theorem test_collision :
    ((running dead .create packetA).writeWord 0x000 2).readWord 0x004 = 0x00000203 ∧
      observed (step ((running dead .create packetA).writeWord 0x000 2)) = some (0x00000252, 0xFFFFFFFF, 0) := by
  decide

/-- 95_test_vectors.md L2.6, the CF1 record: META, PORTS, SRC0, SRC1, DST0 and BUCKET. -/
theorem test_flow_view :
    one.readWord 0x1000 = 0x00000001 ∧ one.readWord 0x1004 = 0x005004D2 ∧ one.readWord 0x1008 = 0x0A000001 ∧
      one.readWord 0x100C = 0 ∧ one.readWord 0x1018 = 0x0A000002 ∧ one.readWord 0x1048 = 77 := by
  decide

/-- 30_encoding.md R98: the expansion of a PKT4 line and of a command line. -/
theorem test_assemble :
    assemble [.pkt4 (networkWord 10 0 0 1) 1234 (networkWord 10 0 0 2) 80 0x100000002 60, .command .create] =
      [.write 4 0x010 0x0A000001, .write 4 0x020 0x0A000002, .write 4 0x030 0x005004D2, .write 4 0x038 2,
        .write 4 0x03C 1, .write 4 0x034 60, .write 4 0x000 1, .poll] := by
  decide

/-! ### States that meet the invariant -/

theorem test_dead_inv : dead.Inv := by
  refine ⟨by decide, by simp [Memory.wf, Slots.wf, dead, State.resetWith], rfl, ⟨fun _ => ⟨rfl, rfl⟩, fun h => ?_,
    by decide, fun h => ?_, fun h f hf => ?_, fun b => List.nodup_nil, fun b h => ?_⟩⟩
  · exact absurd h (by decide)
  · exact ⟨fun hs => absurd hs (by simp [dead, State.resetWith, State.flowAt, slotGet]),
      fun hs => absurd hs (by simp [dead, State.resetWith])⟩
  · exact absurd hf (by simp [dead, State.resetWith, State.flowAt, slotGet])
  · exact ⟨fun hm => absurd hm (List.not_mem_nil), fun ⟨f, hf, _⟩ =>
      absurd hf (by simp [dead, State.resetWith, State.flowAt, slotGet])⟩

theorem one_flowAt (h : Nat) : one.flowAt h = if 0 = h then some flowA else none := rfl

theorem one_chainAt (b : Nat) : one.chainAt b = if 77 = b then [0] else [] := by
  by_cases h : 77 = b <;> simp [one, live, dead, State.chainAt, slotGet, h]

theorem flowA_ok : flowA.Ok params8 1024 := ⟨rfl, rfl, rfl, by decide, by decide⟩

theorem test_one_inv : one.Inv := by
  refine ⟨by decide, by decide, rfl, ⟨fun h => absurd h (by decide), fun _ => by decide, by decide, fun h => ?_,
    fun h f hf => ?_, fun b => ?_, fun b h => ?_⟩⟩
  · rw [one_flowAt]
    by_cases h0 : 0 = h
    · subst h0; decide
    · have : ¬h < 1 := by omega
      simpa [h0, one] using this
  · rw [one_flowAt] at hf
    by_cases h0 : 0 = h
    · simp only [h0, if_true, Option.some.injEq] at hf; subst hf; exact flowA_ok
    · simp [h0] at hf
  · rw [one_chainAt]; by_cases hb : 77 = b <;> simp [hb]
  · rw [one_chainAt, one_flowAt]
    have key : (h = 0) ↔ 0 = h.toNat := ⟨fun e => by subst e; rfl, fun e => BitVec.eq_of_toNat_eq (by simpa using e.symm)⟩
    by_cases hb : 77 = b
    · subst hb
      simp only [if_true, List.mem_singleton, key]
      constructor
      · intro h0; exact ⟨flowA, by simp [h0], rfl⟩
      · intro ⟨f, hf, _⟩; by_contra h0; simp [h0] at hf
    · simp only [hb, if_false, List.not_mem_nil, false_iff]
      rintro ⟨f, hf, hfb⟩
      by_cases h0 : 0 = h.toNat
      · simp only [h0, if_true, Option.some.injEq] at hf; subst hf; exact hb hfb
      · simp [h0] at hf

theorem test_one_order : MruOrder one [0] := by
  refine ⟨by decide, fun h hh => by rw [List.mem_singleton.mp hh]; decide, fun b => ?_⟩
  rw [one_chainAt]
  by_cases h : 77 = b
  · subst h; decide
  · have : one.inBucket b 0#32 = false := by simp [State.inBucket, one_flowAt, flowA, h]
    simp [h, this]

/-- A command in flight keeps the invariant. -/
theorem running_inv {s : State} (h : s.Inv) (i : Instr) (o : Operands) : (running s i o).Inv :=
  ⟨h.params_ok, h.memory_wf, rfl, ⟨h.index.dead, h.index.live, h.index.count_le, h.index.slots, h.index.records,
    h.index.nodup, h.index.chain_iff⟩⟩

theorem running_order {s : State} {r : List Handle} (h : MruOrder s r) (i : Instr) (o : Operands) :
    MruOrder (running s i o) r := h

/-! ### Witnesses: a state and operands that meet the hypotheses of each statement -/

/-- The packet of A with a handle operand. -/
def withHandle (h : Word) : Operands := { packetB with handleIn := h }

/-- A state in which the host's next access is `a`. -/
def hosting (s : State) (ts : List Turn) (a : HostOp) : State := { s with program := [a], turns := ts }

theorem test_witness_DecodeOfEncodeGivesTheCommandBack : (Instr.createFlow .ipv6 synAck).wellFormed = true := by decide

/-- OP 0, OP 6, OP 15 and RSV bit 10 for the first clause, OP 1 and OP 5 for the second; both forms of the engine's
turn. -/
theorem test_witness_IllegalWordRaisesIllegalCommand :
    (∀ w ∈ [0x0#32, 0x6, 0xF, 0x401],
      ((dead.issue w).busy = true ∧ (dead.issue w).fault = .noFault) ∧
        (w.extractLsb' 0 4 = 0 ∨ 6 ≤ (w.extractLsb' 0 4).toNat ∨ w.extractLsb' 10 22 ≠ 0)) ∧
    (∀ w ∈ [0x1#32, 0x3F5],
      ¬(w.extractLsb' 0 4 = 0 ∨ 6 ≤ (w.extractLsb' 0 4).toNat ∨ w.extractLsb' 10 22 ≠ 0)) ∧
    (dead.issue 0).EngineNext [] ∧ ((dead.issue 0).setTurns [.engine, .host]).EngineNext [.host] := by
  refine ⟨?_, ?_, .inl ⟨rfl, rfl⟩, .inr rfl⟩ <;> simp [State.issue, dead, State.resetWith]

/-- Each of the four commands with a field to ignore, with two values of it. -/
theorem test_witness_IgnoredFieldsMakeNoDifference :
    dead.EngineNext [] ∧
    ∀ c ∈ [(1#4, 0#4, 15#4, 0#2, 3#2), (2, 0, 1, 0, 1), (3, 0, 15, 1, 1), (5, 2, 2, 0, 3)],
      (c.1 = 1 ∨ c.1 = 2 ∨ (c.1 = 3 ∧ c.2.2.2.1 = c.2.2.2.2) ∨ (c.1 = 5 ∧ c.2.1 = c.2.2.1)) := by
  refine ⟨.inl ⟨rfl, rfl⟩, ?_⟩; simp

theorem test_witness_StepRunsTheDecodedCommand :
    (running one .destroy packetA).busy = true ∧
    (running one .destroy packetA).latched = some ⟨2, packetA⟩ ∧ decode 2 = .command .destroy ∧
    (running one .destroy packetA).EngineNext [] ∧
    ((running one .destroy packetA).setTurns [.engine]).EngineNext [] := by
  refine ⟨rfl, rfl, rfl, .inl ⟨rfl, rfl⟩, .inr rfl⟩

/-- Both forms of the host's turn. -/
theorem test_witness_CmdWriteIssuesTheCommand :
    (hosting dead [] (.write 4 0x000 1)).busy = false ∧
    (hosting dead [] (.write 4 0x000 1)).HostNext [] ∧
    (hosting dead [.host, .reset] (.write 4 0x000 1)).HostNext [.reset] ∧
    (hosting dead [] (.write 4 0x000 1)).program = .write 4 0x000 1 :: [] :=
  ⟨rfl, .inl ⟨rfl, rfl, rfl⟩, .inr rfl, rfl⟩

theorem test_witness_CmdWriteWhileBusyCollides :
    let s := hosting (running dead .create packetA) [.host] (.write 4 0x000 2)
    s.busy = true ∧ s.latched = some ⟨1, packetA⟩ ∧ s.turns = .host :: [] ∧
      s.program = .write 4 0x000 2 :: [] ∧ (running dead .create packetA).EngineNext [] :=
  ⟨rfl, rfl, rfl, rfl, .inl ⟨rfl, rfl⟩⟩

theorem test_witness_CompletionClearsBusyAndSnapshot : ∃ t, exec .destroy (running one .destroy packetA) = .next t :=
  ⟨_, rfl⟩

/-- A next state, and a fault of a state no run reaches. -/
theorem test_witness_CommandsDoNotReadLiveOperands :
    (∃ t, exec .destroy (running one .destroy packetA) = .next t) ∧ exec .destroy dead = .fault .noSnapshot :=
  ⟨⟨_, rfl⟩, rfl⟩

theorem test_witness_FaultedEngineRefusesEveryCommand :
    (running faulted .create packetA).latched = some ⟨1, packetA⟩ ∧
    (running faulted .create packetA).fault ≠ .noFault ∧ (running faulted .create packetA).busy = true ∧
    (running faulted .create packetA).EngineNext [] :=
  ⟨rfl, by decide, rfl, .inl ⟨rfl, rfl⟩⟩

/-- A result, a fault and a refusal. -/
theorem test_witness_EveryCompletionIsResultFaultOrRefusal :
    (∀ s, (running s .destroy packetA).busy = true) ∧ (running one .destroy packetA).EngineNext [] ∧
    (running dead .destroy packetA).EngineNext [] ∧ (running faulted .destroy packetA).EngineNext [] ∧
    (∃ t, step (running one .destroy packetA) = .next t ∧ t.result = .ok) ∧
    (∃ t, step (running dead .destroy packetA) = .next t ∧ t.result = .fault) ∧
    ∃ t, step (running faulted .destroy packetA) = .next t ∧ t.result = .refused :=
  ⟨fun _ => rfl, .inl ⟨rfl, rfl⟩, .inl ⟨rfl, rfl⟩, .inl ⟨rfl, rfl⟩, ⟨_, rfl, rfl⟩, ⟨_, rfl, rfl⟩, ⟨_, rfl, rfl⟩⟩

theorem test_witness_ChecksHappenInTheSpecsOrder :
    let s := running one .destroy packetA
    s.busy = true ∧ s.latched = some ⟨2, packetA⟩ ∧ s.EngineNext [] ∧
      ∀ h, h < s.flowCount.toNat → (s.flowAt h).isSome = true :=
  ⟨rfl, rfl, .inl ⟨rfl, rfl⟩, fun h => (test_one_inv.index.slots h).mpr⟩

theorem test_witness_NothingElseCanFail :
    let s := running one .destroy (withHandle 0)
    s.latched = some ⟨2, withHandle 0⟩ ∧ s.fault = .noFault ∧ s.alive = true ∧
      (withHandle 0).handleIn < s.flowCount ∧ s.flowAt (withHandle 0).handleIn.toNat = some flowA ∧
      flowA.state ≠ .close := by
  decide

/-- n = 1 and n = MAX_BUCKETS; a live index; n = 0; n = MAX_BUCKETS + 1. -/
theorem test_witness_CreateMakesAnEmptyIndex :
    let s := fun n => running dead .create { packetA with nbucketsIn := n }
    (∀ n ∈ [0#32, 1, 4096, 4097],
      (s n).latched = some ⟨1, { packetA with nbucketsIn := n }⟩ ∧ (s n).fault = .noFault ∧ (s n).alive = false) ∧
    (1#32 ≠ 0 ∧ 1#32 ≤ dead.params.maxBuckets) ∧ (4096#32 ≠ 0 ∧ 4096#32 ≤ dead.params.maxBuckets) ∧
    dead.params.maxBuckets < 4097#32 ∧
    (running live .create packetA).latched = some ⟨1, packetA⟩ ∧ (running live .create packetA).fault = .noFault ∧
    (running live .create packetA).alive = true := by
  refine ⟨?_, by decide, by decide, by decide, rfl, rfl, rfl⟩
  simp [running, encode, commandWord, Instr.op, dead, State.resetWith]

theorem test_witness_OnlyCreateMakesAnIndexAndItsSizeIsFixed :
    (∃ t, exec .create (running dead .create packetA) = .next t ∧ dead.alive = false ∧ t.alive = true) ∧
    ∃ t, step (running one (.lookup .ipv4) packetB) = .next t ∧ one.alive = true ∧ t.alive = true :=
  ⟨⟨_, rfl, rfl, rfl⟩, ⟨_, rfl, rfl, by decide⟩⟩

theorem test_witness_DestroyReleasesTheIndex :
    (running one .destroy packetA).latched = some ⟨2, packetA⟩ ∧ (running one .destroy packetA).fault = .noFault ∧
    (running one .destroy packetA).alive = true ∧ (running dead .destroy packetA).latched = some ⟨2, packetA⟩ ∧
    (running dead .destroy packetA).fault = .noFault ∧ (running dead .destroy packetA).alive = false := by
  decide

theorem test_witness_ResultRegistersAreWrittenOnlyByLookupAndCreateFlow :
    ((running one .destroy packetA).busy = true ∧ (running one .destroy packetA).latched = some ⟨2, packetA⟩ ∧
      (running one .destroy packetA).EngineNext [] ∧ (∃ t, step (running one .destroy packetA) = .next t) ∧
      (∀ l3, decode 2 ≠ .command (.lookup l3)) ∧ ∀ l3 flags, decode 2 ≠ .command (.createFlow l3 flags)) ∧
    (running dead (.lookup .ipv4) packetA).EngineNext [] ∧
    ∃ t, step (running dead (.lookup .ipv4) packetA) = .next t ∧ t.result = .fault :=
  ⟨⟨rfl, rfl, .inl ⟨rfl, rfl⟩, ⟨_, rfl⟩, fun l3 => by cases l3 <;> decide, fun l3 flags h => (by
    rw [show decode 2 = .command .destroy from rfl] at h; cases h)⟩, .inl ⟨rfl, rfl⟩, ⟨_, rfl, rfl⟩⟩

/-- No index; an unsupported family; found; not found. -/
theorem test_witness_LookupAnswersTheFirstMatchOfTheBucket :
    let s := fun s => running s (.lookup .ipv4) packetB
    ((s dead).latched = some ⟨3, packetB⟩ ∧ (s dead).fault = .noFault ∧ (s dead).alive = false) ∧
    ((s live).latched = some ⟨3, packetB⟩ ∧ (s live).fault = .noFault ∧ (s live).alive = true) ∧
    (L3Tag.other2 = .other2 ∨ L3Tag.other2 = .other3) ∧ (L3Tag.ipv4 = .ipv4 ∨ L3Tag.ipv4 = .ipv6) ∧
    ((s one).chainAt (bucketOf (s one).params (packetB.tuple .ipv4) (s one).bucketCount).toNat).find?
      ((s one).slotMatches (packetB.tuple .ipv4)) = some 0 ∧
    ((s live).chainAt (bucketOf (s live).params (packetB.tuple .ipv4) (s live).bucketCount).toNat).find?
      ((s live).slotMatches (packetB.tuple .ipv4)) = none := by
  decide

theorem test_witness_LookupDoesNotTouch : ∃ t, exec (.lookup .ipv4) (running one (.lookup .ipv4) packetB) = .next t :=
  ⟨_, rfl⟩

theorem test_witness_LookupReturnsTheMostRecentlyTouchedMatch :
    let s := running one (.lookup .ipv4) packetB
    s.Inv ∧ MruOrder s [0] ∧ s.latched = some ⟨3, packetB⟩ ∧ s.fault = .noFault ∧ s.alive = true :=
  ⟨running_inv test_one_inv _ _, running_order test_one_order _ _, rfl, rfl, rfl⟩

theorem test_witness_ChainsStayInTouchOrder :
    (running one (.updateFlow ack) packetB).Inv ∧ MruOrder (running one (.updateFlow ack) packetB) [0] ∧
    ∃ t, exec (.updateFlow ack) (running one (.updateFlow ack) packetB) = .next t :=
  ⟨running_inv test_one_inv _ _, running_order test_one_order _ _, ⟨_, rfl⟩⟩

/-- Below capacity by one and by more; both families. -/
theorem test_witness_CreateFlowStoresTheNewFlowAtTheHead :
    (let s := running one (.createFlow .ipv4 syn) packetB
    s.latched = some ⟨0x14, packetB⟩ ∧ s.fault = .noFault ∧ s.alive = true ∧ syn.syn = true ∧
      s.flowCount ≠ s.params.maxFlows ∧ { s with flowCount := 7 }.flowCount ≠ s.params.maxFlows) ∧
    (let s := running one (.createFlow .ipv6 syn) packetB
    s.latched = some ⟨0x114, packetB⟩ ∧ s.fault = .noFault ∧ s.alive = true ∧ s.flowCount ≠ s.params.maxFlows) := by
  decide

theorem test_witness_CreateFlowAtCapacityChangesNoFlow :
    let s := running full (.createFlow .ipv4 syn) packetB
    s.latched = some ⟨0x14, packetB⟩ ∧ s.fault = .noFault ∧ s.alive = true ∧ syn.syn = true ∧
      s.flowCount = s.params.maxFlows := by
  decide

theorem test_witness_CreateFlowWithoutSynFaults :
    let s := running one (.createFlow .ipv4 ack) packetA
    ack.syn = false ∧ (∃ t, exec (.createFlow .ipv4 ack) s = .next t) ∧ s.latched = some ⟨0x24, packetA⟩ ∧
      s.fault = .noFault ∧ s.alive = true :=
  ⟨rfl, ⟨_, rfl⟩, rfl, rfl, rfl⟩

theorem test_witness_CreateFlowWithNoIndexOrAnUnsupportedFamilyFaults :
    let s := fun s => running s (.createFlow .other3 syn) packetA
    ((s dead).latched = some ⟨0x314, packetA⟩ ∧ (s dead).fault = .noFault ∧ (s dead).alive = false) ∧
    ((s live).latched = some ⟨0x314, packetA⟩ ∧ (s live).fault = .noFault ∧ (s live).alive = true) ∧
    (L3Tag.other3 = .other2 ∨ L3Tag.other3 = .other3) := by
  decide

/-- The same tuple again, and the reverse of it. -/
theorem test_witness_ADuplicateFlowShadowsTheOlderOne :
    let s := running one (.createFlow .ipv4 syn) packetA
    s.Inv ∧ s.latched = some ⟨0x14, packetA⟩ ∧ s.fault = .noFault ∧ s.alive = true ∧ syn.syn = true ∧
      s.flowCount ≠ s.params.maxFlows ∧ (∃ t, exec (.createFlow .ipv4 syn) s = .next t) ∧
      packetB.tuple .ipv4 = (packetA.tuple .ipv4).reverse :=
  ⟨running_inv test_one_inv _ _, rfl, rfl, rfl, rfl, by decide, ⟨_, rfl⟩, by decide⟩

theorem test_witness_UpdateFlowUpdatesOneFlowAndMovesItToFront :
    let s := running one (.updateFlow ack) (withHandle 0)
    s.latched = some ⟨0x25, withHandle 0⟩ ∧ s.fault = .noFault ∧ s.alive = true ∧
      (withHandle 0).handleIn < s.flowCount ∧ s.flowAt (withHandle 0).handleIn.toNat = some flowA ∧
      flowA.state ≠ .close := by
  decide

/-- No index; a handle equal to flow_count; NO_HANDLE. -/
theorem test_witness_UpdateFlowOfAnInvalidHandleFaults :
    let s := fun s h => running s (.updateFlow ack) (withHandle h)
    ((s dead 0).latched = some ⟨0x25, withHandle 0⟩ ∧ (s dead 0).fault = .noFault ∧ (s dead 0).alive = false) ∧
    ((s one 1).latched = some ⟨0x25, withHandle 1⟩ ∧ (s one 1).fault = .noFault ∧ (s one 1).alive = true ∧
      (s one 1).flowCount ≤ (withHandle 1).handleIn) ∧
    ((s one 0xFFFFFFFF).latched = some ⟨0x25, withHandle 0xFFFFFFFF⟩ ∧
      (withHandle 0xFFFFFFFF).handleIn = 0xFFFFFFFF) := by
  decide

theorem test_witness_UpdateInCloseFaults :
    let s := running closed (.updateFlow ack) (withHandle 0)
    s.latched = some ⟨0x25, withHandle 0⟩ ∧ s.fault = .noFault ∧ s.alive = true ∧
      (withHandle 0).handleIn < s.flowCount ∧
      s.flowAt (withHandle 0).handleIn.toNat = some { flowA with state := .close } := by
  decide

/-- Two packets of different tuples with the same handle, timestamp and length. -/
theorem test_witness_UpdateFlowReadsNoPacketTuple :
    let l := packetA
    let l' := { packetB with tsLo := 1 }
    l.handleIn = l'.handleIn ∧ l.tsLo = l'.tsLo ∧ l.tsHi = l'.tsHi ∧ l.wireLen = l'.wireLen ∧ l.ports ≠ l'.ports := by
  decide

/-- Flow A after packet B. -/
def flowA2 : FlowRecord := flowA.updated .established packetB

theorem test_witness_AnUpdatedFlowIsFoundFirst :
    let s := running one (.updateFlow ack) packetB
    s.Inv ∧ s.latched = some ⟨0x25, packetB⟩ ∧
      (∃ t, exec (.updateFlow ack) s = .next t ∧ t.result = .ok ∧ t.flowAt packetB.handleIn.toNat = some flowA2) ∧
      flowMatches flowA2 (packetA.tuple .ipv4) = true :=
  ⟨running_inv test_one_inv _ _, rfl, ⟨_, rfl, rfl, by decide⟩, by decide⟩

/-- The host's accesses after the flow's creation: a LOOKUP, then an UPDATE_FLOW of handle 0 with SYN and ACK. -/
def follow : List HostOp := [.write 4 0x000 0x03, .poll, .write 4 0x000 0x35, .poll]

/-- A run with another command between the creation and the one update. -/
theorem test_witness_CountersCountEveryPacketOfTheFlow :
    let s := { running live (.createFlow .ipv4 syn) packetA with program := follow, operands := packetB }
    s.flowCount ≤ s.params.maxFlows ∧ s.latched = some ⟨0x14, packetA⟩ ∧
    ∃ s₁ t, exec (.createFlow .ipv4 syn) s = .next s₁ ∧ s₁.result = .ok ∧
      runLifetime s₁.resultHandle 6 s₁ = some (t, [packetB]) :=
  ⟨by decide, rfl, _, _, rfl, rfl, rfl⟩

theorem test_witness_BucketIndexIsSymmetricAndInRange : (1#32 ≠ 0) ∧ (0xFFFFFFFF#32 ≠ 0) := by decide

/-- Flags for each clause of the transition rows, in their order: SYN|ACK|FIN|RST, FIN|RST, RST, none. -/
theorem test_witness_PermittedSuccessorsAreExact :
    (let f : Flags := ⟨true, true, true, true⟩; f.syn = true ∧ f.ack = true) ∧
    (let f : Flags := ⟨true, false, true, true⟩; ¬(f.syn = true ∧ f.ack = true) ∧ f.fin = true) ∧
    (let f : Flags := ⟨false, true, false, true⟩;
      ¬(f.syn = true ∧ f.ack = true) ∧ f.fin = false ∧ f.rst = true) ∧
    (let f : Flags := ⟨true, false, false, false⟩;
      ¬(f.syn = true ∧ f.ack = true) ∧ f.fin = false ∧ f.rst = false) := by
  decide

/-- The spec's own pair (41_hasher.md R159). -/
theorem test_witness_SameWordSumHashesAlikeButDoesNotMatch :
    (0x20010DB8#32 + 0 + 0 + 1 = 0 + 0 + 0 + 0x20010DB9) ∧
    addrEq (.v6 0x20010DB8 0 0 1) (.v6 0 0 0 0x20010DB9) = false := by
  decide

/-- The first and the last RW register. -/
theorem test_witness_OperandRegistersReadBack :
    (Reg.isOperand .srcAddr0 = true ∧ regOffset .srcAddr0 = 0x010) ∧
    (Reg.isOperand .nbucketsIn = true ∧ regOffset .nbucketsIn = 0x044) := by
  decide

/-- Boundaries: 0x05C, 0xFFC, WINDOW_BYTES, 0x104C, 0x107C; writes at 0x004, 0x00C and 0x048. The RW registers from
0x010 to 0x044 fall under no clause. -/
theorem test_witness_ReservedOffsetsReadZeroAndIgnoreWrites :
    one.windowBytes = 0x1000 + one.params.maxFlows.toNat * 0x80 ∧ one.windowBytes = 0x1400 ∧
    (one.readWord 0x05C = 0 ∧ one.readWord 0xFFC = 0 ∧ one.readWord 0x1400 = 0 ∧ one.readWord 0x104C = 0 ∧
      one.readWord 0x107C = 0 ∧ one.readWord 0 = 0) ∧
    (one.writeWord 0x004 7 = one ∧ one.writeWord 0x00C 7 = one ∧ one.writeWord 0x048 7 = one) ∧
    one.writeWord 0x010 7 ≠ one ∧ one.writeWord 0x044 7 ≠ one := by
  decide

theorem test_witness_FlowViewShowsTheRecord :
    one.alive = true ∧ 0 < one.flowCount.toNat ∧ 0 < one.params.maxFlows.toNat ∧ one.flowAt 0 = some flowA := by
  decide

/-- No live index; the first handle at flow_count; the first and the last word of the record. -/
theorem test_witness_AnInvalidHandlesRecordReadsZero :
    ¬(dead.alive = true ∧ 0 < dead.flowCount.toNat) ∧ ¬(one.alive = true ∧ 1 < one.flowCount.toNat) ∧
    0 < 0x80 ∧ 0x7C < 0x80 := by
  decide

theorem test_witness_FlowCommandsChangeOneFlowViewRecord :
    let s := fun i => running one i packetB
    ((s .create).Inv ∧ (s (.createFlow .ipv4 syn)).Inv ∧ (s (.updateFlow ack)).Inv) ∧
    (∀ i, (s i).latched = some ⟨encode i, packetB⟩) ∧
    (∃ t, exec (.createFlow .ipv4 syn) (s (.createFlow .ipv4 syn)) = .next t) ∧
    (∃ t, exec (.updateFlow ack) (s (.updateFlow ack)) = .next t) ∧ (∃ t, exec .create (s .create) = .next t) ∧
    viewBase ≤ 0x1000 ∧ 0x1000 < recordOffset one.flowCount.toNat ∧
    recordOffset packetB.handleIn.toNat + recordBytes ≤ 0x1080 :=
  ⟨⟨running_inv test_one_inv _ _, running_inv test_one_inv _ _, running_inv test_one_inv _ _⟩, fun _ => rfl,
    ⟨_, rfl⟩, ⟨_, rfl⟩, ⟨_, rfl⟩, by decide, by decide, by decide⟩

theorem test_witness_HostReadsHaveNoSideEffect :
    (hosting one [] (.read 4 0x1000)).HostNext [] ∧ (hosting one [.host] .poll).HostNext [] ∧
    0x1000 % 4 = 0 ∧ (hosting one [] (.read 4 0x1000)).program = .read 4 0x1000 :: [] ∧
    (hosting one [.host] .poll).program = .poll :: [] :=
  ⟨.inl ⟨rfl, rfl, rfl⟩, .inr rfl, rfl, rfl, rfl⟩

theorem test_witness_AccessesOutsideTheInterfaceAreRefused :
    (hosting one [.host] (.read 1 0x004)).HostNext [] ∧ (hosting one [.host] (.write 4 0x011 0)).HostNext [] ∧
    (1 ≠ 4 ∨ 0x004 % 4 ≠ 0) ∧ (4 ≠ 4 ∨ 0x011 % 4 ≠ 0) :=
  ⟨.inr rfl, .inr rfl, by decide, by decide⟩

theorem test_witness_AnIdleEngineTakesNoStep :
    (one.setTurns [.engine]).busy = false ∧ (one.setTurns [.engine]).turns = .engine :: [] ∧ one.busy = false ∧
    one.turns = [] ∧ one.program = [] := by
  decide

theorem test_witness_OnlyACmdWriteStartsTheEngine :
    ∃ t, step (hosting dead [] (.write 4 0x000 1)) = .next t ∧ dead.busy = false ∧ t.busy = true :=
  ⟨_, rfl, rfl, rfl⟩

theorem test_witness_HostMovesLeaveResultsAndIndexAlone :
    (hosting one [] (.write 4 0x000 1)).HostNext [] ∧ ∃ t, step (hosting one [] (.write 4 0x000 1)) = .next t :=
  ⟨.inl ⟨rfl, rfl, rfl⟩, ⟨_, rfl⟩⟩

theorem test_witness_CommandsLeaveTheHostsSideAlone :
    (∃ t, exec (.updateFlow ack) (running one (.updateFlow ack) packetB) = .next t) ∧ Reg.isOperand .tsHi = true :=
  ⟨⟨_, rfl⟩, rfl⟩

theorem test_witness_ParametersNeverChange : ∃ t, step (running one .destroy packetA) = .next t := ⟨_, rfl⟩

/-- A reset event with a command in flight. -/
theorem test_witness_AResetEventRestoresTheResetState :
    ((running one .destroy packetA).setTurns [.reset]).turns = .reset :: [] := rfl

theorem test_witness_AFaultIsClearedOnlyByReset :
    ∃ t, step (running faulted .destroy packetA) = .next t ∧ (running faulted .destroy packetA).fault ≠ .noFault ∧
      (running faulted .destroy packetA).turns.head? ≠ some .reset :=
  ⟨_, rfl, by decide, by decide⟩

/-- DESTROY for the first alternative, UPDATE_FLOW for the second. -/
theorem test_witness_AFlowsTupleIsFixedAndFlowsLeaveOnlyWithTheIndex :
    (running one .destroy packetA).Inv ∧ (∃ t, step (running one .destroy packetA) = .next t) ∧
    (∃ t, step (running one (.updateFlow ack) packetB) = .next t) ∧ one.flowAt 0 = some flowA :=
  ⟨running_inv test_one_inv _ _, ⟨_, rfl⟩, ⟨_, rfl⟩, rfl⟩

theorem test_witness_AFlowsStateNeverGoesBack :
    (running one (.updateFlow ack) packetB).Inv ∧
    ∃ t, step (running one (.updateFlow ack) packetB) = .next t ∧ one.flowAt 0 = some flowA ∧
      t.flowAt 0 = some flowA2 :=
  ⟨running_inv test_one_inv _ _, ⟨_, rfl, rfl, by decide⟩⟩

theorem test_witness_EveryStepKeepsTheInvariant :
    (running dead .create packetA).Inv ∧ ∃ t, step (running dead .create packetA) = .next t :=
  ⟨running_inv test_dead_inv _ _, ⟨_, rfl⟩⟩

theorem test_witness_NoStepOfASoundStateIsStuck :
    one.Inv ∧ step { one with program := [.read 2 0] } = .refused (.accessOutsideInterface 2 0) :=
  ⟨test_one_inv, rfl⟩

theorem test_witness_ABusyEngineCompletesAtItsMove :
    (running one .destroy packetA).Inv ∧ (running one .destroy packetA).busy = true ∧
    (running one .destroy packetA).EngineNext [] :=
  ⟨running_inv test_one_inv _ _, rfl, .inl ⟨rfl, rfl⟩⟩

end Sys2Proof.Tests
end

/-!
The parameters of an instance are fixed for its life (spec 00_scope.md R6): every way a completion, a host access and a
step can go is a composition of state operations that keep `State.params`.
-/

namespace Sys2Proof.Machine

variable {s t : State}

/-- The completion of a command keeps the parameters. -/
theorem Completed.params_eq {l : Snapshot} {i : Instr} (h : Completed s l i t) : t.params = s.params := by
  cases h <;> simp

@[simp] theorem State.writeWord_params (s : State) (offset : Nat) (v : Word) :
    (s.writeWord offset v).params = s.params := by
  obtain h | ⟨r, -, -, h⟩ | ⟨-, -, h⟩ | ⟨-, -, h⟩ := s.writeWord_cases offset v <;> simp [h]

/-- The host's move keeps the parameters. -/
theorem HostMoved.params_eq (h : HostMoved s t) : t.params = s.params := by
  cases h <;> simp

/-- Every step keeps the parameters: a completion and a host's move by their own lemmas, a turn used up by an idle
engine and a reset event directly. -/
theorem Stepped.params_eq (h : Stepped s t) : t.params = s.params := by
  cases h with
  | command _ _ _ _ _ _ _ _ hc => exact hc.params_eq
  | illegal => simp
  | illegalRefused => simp
  | idle => simp
  | host _ _ _ hm => exact hm.params_eq
  | reset => simp

/-- Settles O51: the parameters are kept in every case of what a step can do. -/
theorem parametersNeverChange : Obligations.ParametersNeverChange :=
  fun _ _ h => (step_stepped h).params_eq

end Sys2Proof.Machine

/-!
The invariant of the machine (spec 10_state.md R29, R31, R32, R36, R39). Most operations leave the index alone, so they
keep the invariant by one frame lemma; a new or dropped index is empty; the two that edit a live index, `insertFlow` and
`moveToFront` with the record's update, have a lemma each.
-/

namespace Sys2Proof.Machine

variable {s t : State}

/-! ### Records -/

/-- The record CREATE_FLOW stores is a sound one (spec 10_state.md R29, 40_flow_index.md R120, R121). -/
theorem newRecord_ok (p : Params) (n : Word) {l3 : L3Tag} (flags : Flags) (o : Operands) (hs : l3.supported = true) :
    (newRecord (o.tuple l3) flags o (bucketOf p (o.tuple l3) n)).Ok p n where
  supported := hs
  src_tag := (o.tuple_hasTag hs).1
  dst_tag := (o.tuple_hasTag hs).2
  not_close := initialState_ne_close flags
  bucket_eq := rfl

/-- An update keeps a record sound: it changes no field of the 5-tuple, and no transition reaches CLOSE. -/
theorem FlowRecord.Ok.updated {p : Params} {n : Word} {f : FlowRecord} (h : f.Ok p n) {flags : Flags} {st : TcpState}
    (hn : nextState f.state flags = some st) (o : Operands) : (f.updated st o).Ok p n where
  supported := h.supported
  src_tag := h.src_tag
  dst_tag := h.dst_tag
  not_close := fun hc => nextState_ne_close f.state flags (hn.trans (congrArg some hc))
  bucket_eq := h.bucket_eq

/-! ### What the index invariant says of slots and chains -/

/-- The slot the next flow takes is free. -/
theorem State.IndexInv.flowAt_flowCount (h : s.IndexInv) : s.flowAt s.flowCount.toNat = none := by
  simpa using (h.slots s.flowCount.toNat).not.mpr (lt_irrefl _)

theorem State.IndexInv.mem_chainAt {k : Handle} {f : FlowRecord} (h : s.IndexInv) (hr : s.flowAt k.toNat = some f) :
    k ∈ s.chainAt f.bucket.toNat :=
  (h.chain_iff _ k).mpr ⟨f, hr, rfl⟩

/-- No chain names the handle of the next flow. -/
theorem State.IndexInv.flowCount_not_mem (h : s.IndexInv) (b : Nat) : s.flowCount ∉ s.chainAt b := by
  rw [h.chain_iff, h.flowAt_flowCount]
  simp

/-- With no index there is no flow. -/
theorem State.IndexInv.flowAt_of_dead (h : s.IndexInv) (ha : s.alive = false) (k : Nat) : s.flowAt k = none := by
  have hk := h.slots k
  rw [(h.dead ha).2] at hk
  simpa using hk

/-- Below capacity the flow count does not wrap. -/
theorem State.IndexInv.flowCount_succ (h : s.IndexInv) (hm : s.flowCount ≠ s.params.maxFlows) :
    (s.flowCount + 1).toNat = s.flowCount.toNat + 1 ∧ s.flowCount + 1 ≤ s.params.maxFlows := by
  have := h.count_le
  constructor <;> bv_omega

/-! ### The operations that edit a live index -/

theorem State.IndexInv.insertFlow {f : FlowRecord} (h : s.IndexInv) (ha : s.alive = true)
    (hm : s.flowCount ≠ s.params.maxFlows) (hf : f.Ok s.params s.bucketCount) :
    (s.insertFlow s.flowCount f f.bucket).IndexInv where
  dead := by simp [ha]
  live := h.live
  count_le := (h.flowCount_succ hm).2
  slots k := by
    have hk := h.slots k
    have hs := (h.flowCount_succ hm).1
    rw [State.flowAt_insertFlow, State.insertFlow_flowCount, hs]
    split
    · simp; omega
    · rw [hk]; omega
  records k g hg := by
    rw [State.flowAt_insertFlow] at hg
    split at hg
    · cases hg; exact hf
    · exact h.records k g hg
  nodup b := by
    rw [State.chainAt_insertFlow]
    split
    · exact List.nodup_cons.mpr ⟨h.flowCount_not_mem _, h.nodup _⟩
    · exact h.nodup b
  chain_iff b k := by
    rw [State.chainAt_insertFlow, State.flowAt_insertFlow]
    by_cases hk : k = s.flowCount
    · have hn := h.flowCount_not_mem b
      subst hk
      rw [if_pos rfl]
      split
      · next e => simp [e]
      · next e => simp [hn, Ne.symm e]
    · have hk' : k.toNat ≠ s.flowCount.toNat := fun e => hk (BitVec.eq_of_toNat_eq e)
      rw [if_neg hk', ← h.chain_iff]
      split
      · next e => simp [e, hk]
      · rfl

theorem State.IndexInv.updateAtFront {k : Handle} {f g : FlowRecord} (h : s.IndexInv)
    (hr : s.flowAt k.toNat = some f) (hg : g.Ok s.params s.bucketCount) (hb : g.bucket = f.bucket) :
    ((s.moveToFront k f.bucket).setFlow k.toNat g).IndexInv where
  dead := h.dead
  live := h.live
  count_le := h.count_le
  slots j := by
    have hj := h.slots j
    rw [State.flowAt_setFlow, State.flowAt_moveToFront]
    split
    · next e => subst e; simpa [hr] using hj
    · exact hj
  records j f' hf' := by
    rw [State.flowAt_setFlow, State.flowAt_moveToFront] at hf'
    split at hf'
    · cases hf'; exact hg
    · exact h.records j f' hf'
  nodup b := by
    rw [State.chainAt_setFlow, State.chainAt_moveToFront]
    split
    · exact List.nodup_cons.mpr ⟨(h.nodup _).not_mem_erase, (h.nodup _).erase _⟩
    · exact h.nodup b
  chain_iff b j := by
    have hmem : ∀ b', j ∈ (s.moveToFront k f.bucket).chainAt b' ↔ j ∈ s.chainAt b' := fun b' => by
      rw [State.chainAt_moveToFront]
      split
      · next e => rw [e, (List.perm_cons_erase (h.mem_chainAt hr)).mem_iff]
      · rfl
    rw [State.chainAt_setFlow, hmem, h.chain_iff, State.flowAt_setFlow, State.flowAt_moveToFront]
    split
    · next e => rw [e, hr]; simp [hb]
    · rfl

/-! ### The operations that leave the index alone, and the ones that leave it empty -/

/-- The fields the index invariant and the canonical form speak of. -/
def State.indexPart (s : State) :
    Params × Bool × Word × Word × List (Nat × FlowRecord) × List (Nat × List Handle) :=
  (s.params, s.alive, s.bucketCount, s.flowCount, s.flows, s.chains)

theorem State.indexPart_eq_iff : t.indexPart = s.indexPart ↔
    t.params = s.params ∧ t.alive = s.alive ∧ t.bucketCount = s.bucketCount ∧ t.flowCount = s.flowCount ∧
      t.flows = s.flows ∧ t.chains = s.chains := by
  simp [State.indexPart]

theorem State.IndexInv.congr (h : s.IndexInv) (he : t.indexPart = s.indexPart) : t.IndexInv := by
  obtain ⟨hp, ha, hb, hc, hf, hch⟩ := State.indexPart_eq_iff.mp he
  have hf := State.flowAt_congr hf
  have hch := State.chainAt_congr hch
  obtain ⟨dead, live, count_le, slots, records, nodup, chain_iff⟩ := h
  constructor <;> simp only [hp, ha, hb, hc, hf, hch] <;> assumption

/-- An operation that leaves the index alone keeps the invariant when it keeps a snapshot exactly while BUSY. -/
theorem State.Inv.frame (h : s.Inv) (he : t.indexPart = s.indexPart) (hb : t.busy = t.latched.isSome) : t.Inv := by
  obtain ⟨hp, -, -, -, hf, hch⟩ := State.indexPart_eq_iff.mp he
  exact ⟨hp ▸ h.params_ok, Memory.wf_congr hf hch h.memory_wf, hb, h.index.congr he⟩

/-- An index with no flow meets the index invariant when its bucket count is right. -/
theorem State.IndexInv.of_empty (hc : s.flowCount = 0) (hf : s.flows = []) (hch : s.chains = [])
    (hd : s.alive = false → s.bucketCount = 0)
    (hl : s.alive = true → s.bucketCount ≠ 0 ∧ s.bucketCount ≤ s.params.maxBuckets) : s.IndexInv where
  dead ha := ⟨hd ha, hc⟩
  live := hl
  count_le := hc ▸ Nat.zero_le _
  slots k := by simp [State.flowAt, hf, slotGet, hc]
  records k f hk := by simp [State.flowAt, hf, slotGet] at hk
  nodup b := by simp [State.chainAt, hch, slotGet]
  chain_iff b k := by simp [State.chainAt, State.flowAt, hch, hf, slotGet]

/-- The reset state meets the invariant for every choice of allowed parameters (spec 10_state.md R47). -/
theorem State.inv_resetWith {p : Params} (hp : p.wellFormed = true) : (State.resetWith p).Inv where
  params_ok := hp
  memory_wf := by simp [Memory.wf, Slots.wf, State.resetWith]
  busy_iff := rfl
  index := .of_empty rfl rfl rfl (fun _ => rfl) (fun h => nomatch h)

theorem State.Inv.resetEvent (h : s.Inv) : s.resetEvent.Inv :=
  (State.inv_resetWith h.params_ok).frame rfl rfl

/-! ### Completions, host moves and steps -/

/-- The completion of a command keeps the invariant. -/
theorem Completed.inv {l : Snapshot} {i : Instr} (h : Completed s l i t) (hi : s.Inv) : t.Inv := by
  cases h with
  | refused | raised | createNoResource | lookupOk | lookupNotFound | createFlowNoResource =>
    exact hi.frame rfl rfl
  | createOk _ _ hn hm =>
    exact ⟨hi.params_ok, Memory.wf_newIndex s l.operands.nbucketsIn, rfl,
      .of_empty rfl rfl rfl (fun h => nomatch h) fun _ => ⟨hn, BitVec.not_lt.mp hm⟩⟩
  | destroyOk =>
    exact ⟨hi.params_ok, Memory.wf_noIndex s, rfl,
      .of_empty rfl rfl rfl (fun _ => rfl) fun h => nomatch h⟩
  | createFlowOk l3 flags b _ ha hs _ hm hb =>
    subst hb
    exact ⟨hi.params_ok, Memory.wf_insertFlow hi.memory_wf .., rfl,
      (hi.index.insertFlow ha hm (newRecord_ok _ _ flags l.operands hs)).congr rfl⟩
  | updateFlowOk flags f st _ _ _ hr hn =>
    exact ⟨hi.params_ok, Memory.wf_setFlow (Memory.wf_moveToFront hi.memory_wf ..) .., rfl,
      (hi.index.updateAtFront hr ((hi.index.records _ f hr).updated hn l.operands) rfl).congr rfl⟩

/-- A host write keeps the invariant: none changes the index, and an issue sets BUSY with its snapshot. -/
theorem State.Inv.writeWord (h : s.Inv) (offset : Nat) (v : Word) : (s.writeWord offset v).Inv := by
  obtain e | ⟨r, -, -, e⟩ | ⟨-, -, e⟩ | ⟨-, -, e⟩ := s.writeWord_cases offset v <;> rw [e]
  · exact h
  · exact h.frame rfl h.busy_iff
  · exact h.frame rfl rfl
  · exact h.frame rfl h.busy_iff

/-- The host's move keeps the invariant. -/
theorem HostMoved.inv (h : HostMoved s t) (hi : s.Inv) : t.Inv := by
  cases h with
  | idle => exact hi
  | read => exact hi.frame rfl hi.busy_iff
  | write offset v rest =>
    have hp : (s.setProgram rest).Inv := hi.frame rfl hi.busy_iff
    exact hp.writeWord offset v

/-- Every way a step can go keeps the invariant. -/
theorem Stepped.inv (h : Stepped s t) (hi : s.Inv) : t.Inv := by
  have hts : ∀ ts, (s.setTurns ts).Inv := fun ts => hi.frame rfl hi.busy_iff
  cases h with
  | command _ _ ts _ _ _ _ _ hc => exact hc.inv (hts ts)
  | illegal _ ts => exact (hts ts).frame rfl rfl
  | illegalRefused _ ts => exact (hts ts).frame rfl rfl
  | idle ts => exact hts ts
  | host ts _ _ hm => exact hm.inv (hts ts)
  | reset ts => exact (hts ts).resetEvent

/-- Settles O58: the invariant is kept in every case of what a step can do. -/
theorem everyStepKeepsTheInvariant : Obligations.EveryStepKeepsTheInvariant :=
  fun _ _ hi h => (step_stepped h).inv hi

/-- The open limits of `State.reset` are at least 1 (spec 00_scope.md R6). -/
theorem instanceParams_wellFormed : instanceParams.wellFormed = true := by
  have h : ∀ w, atLeastOne w ≠ 0 := fun w => by
    unfold atLeastOne
    split
    · decide
    · assumption
  simpa [Params.wellFormed, instanceParams] using And.intro (h Config.openMaxBuckets) (h Config.openMaxFlows)

/-- Settles O57: the parameters of `State.reset` are allowed ones. -/
theorem resetMeetsTheInvariant : Obligations.ResetMeetsTheInvariant :=
  ⟨State.inv_resetWith instanceParams_wellFormed, Memory.wf_reset⟩

end Sys2Proof.Machine

/-!
The touch order (spec 10_state.md R35) and the lifetime of a stored flow (R30, 40_flow_index.md R113). Both follow from
what each completion does to the two stores: `Completed` cases that leave the stores alone, an index made empty, a flow
inserted in its own free slot, a stored flow updated in place.
-/

namespace Sys2Proof.Machine

variable {s t : State}

/-! ### The touch order -/

/-- The bucket test reads the handle's slot alone. -/
theorem State.inBucket_congr {k : Handle} (h : t.flowAt k.toNat = s.flowAt k.toNat) (b : Nat) :
    t.inBucket b k = s.inBucket b k := by
  simp only [State.inBucket, h]

theorem State.inBucket_eq {k : Handle} {f : FlowRecord} (h : s.flowAt k.toNat = some f) (b : Nat) :
    s.inBucket b k = (f.bucket.toNat == b) := by
  simp only [State.inBucket, h]

/-- The touch order reads the two stores alone. -/
theorem MruOrder.congr {r : List Handle} (h : MruOrder s r) (hf : t.flows = s.flows) (hc : t.chains = s.chains) :
    MruOrder t r := by
  have hf := State.flowAt_congr hf
  have hb : ∀ b, t.inBucket b = s.inBucket b := fun b => funext fun k => State.inBucket_congr (hf _) b
  obtain ⟨hnodup, hstored, hchains⟩ := h
  exact ⟨hnodup, fun k hk => hf _ ▸ hstored k hk, fun b => by rw [State.chainAt_congr hc, hchains, hb]⟩

/-- Where no bucket has a chain the empty order is the touch order. -/
theorem MruOrder.of_empty (hc : s.chains = []) : MruOrder s [] :=
  ⟨List.nodup_nil, by simp, fun b => by simp [State.chainAt, hc, slotGet]⟩

/-- A flow stored in a free slot, at the head of its bucket, is the one touched last. -/
theorem MruOrder.insertFlow {r : List Handle} {k : Handle} {f : FlowRecord} (h : MruOrder s r)
    (hk : s.flowAt k.toNat = none) : MruOrder (s.insertFlow k f f.bucket) (k :: r) := by
  obtain ⟨hnodup, hstored, hchains⟩ := h
  have hnew : ∀ j ∈ r, j ≠ k := fun j hj e => by simpa [e, hk] using hstored j hj
  have hsame : ∀ j ∈ r, (s.insertFlow k f f.bucket).flowAt j.toNat = s.flowAt j.toNat := fun j hj => by
    rw [State.flowAt_insertFlow, if_neg fun e => hnew j hj (BitVec.eq_of_toNat_eq e)]
  have hhead : (s.insertFlow k f f.bucket).flowAt k.toNat = some f := by
    rw [State.flowAt_insertFlow, if_pos rfl]
  refine ⟨List.nodup_cons.mpr ⟨fun hm => hnew k hm rfl, hnodup⟩, fun j hj => ?_, fun b => ?_⟩
  · obtain rfl | hj := List.mem_cons.mp hj
    · rw [hhead, Option.isSome_some]
    · rw [hsame j hj]
      exact hstored j hj
  · rw [List.filter_cons, State.inBucket_eq hhead, State.chainAt_insertFlow,
      List.filter_congr fun j hj => State.inBucket_congr (hsame j hj) b]
    by_cases hb : b = f.bucket.toNat
    · simp [hb, hchains]
    · simp [hb, Ne.symm hb, hchains]

/-- Taking a handle out of a list without duplicates commutes with a filter. -/
theorem filter_erase_of_nodup {r : List Handle} (hr : r.Nodup) (p : Handle → Bool) (k : Handle) :
    (r.erase k).filter p = (r.filter p).erase k := by
  rw [hr.erase_eq_filter, (hr.filter p).erase_eq_filter, List.filter_comm]

/-- A stored flow updated in place and moved to the front of its bucket is the one touched last. -/
theorem MruOrder.updateAtFront {r : List Handle} {k : Handle} {f g : FlowRecord} (h : MruOrder s r)
    (hk : s.flowAt k.toNat = some f) (hg : g.bucket = f.bucket) :
    MruOrder ((s.moveToFront k f.bucket).setFlow k.toNat g) (k :: r.erase k) := by
  obtain ⟨hnodup, hstored, hchains⟩ := h
  have hflow : ∀ j, ((s.moveToFront k f.bucket).setFlow k.toNat g).flowAt j =
      if j = k.toNat then some g else s.flowAt j := fun j => by
    rw [State.flowAt_setFlow, State.flowAt_moveToFront]
  have hin : ∀ b, ((s.moveToFront k f.bucket).setFlow k.toNat g).inBucket b = s.inBucket b := fun b =>
    funext fun j => by
      by_cases hj : j.toNat = k.toNat
      · rw [State.inBucket_eq ((hflow _).trans (if_pos hj)), State.inBucket_eq (hj ▸ hk), hg]
      · exact State.inBucket_congr ((hflow _).trans (if_neg hj)) b
  refine ⟨List.nodup_cons.mpr ⟨hnodup.not_mem_erase, hnodup.erase k⟩, fun j hj => ?_, fun b => ?_⟩
  · rw [hflow]
    split
    · rfl
    · next hne =>
      obtain rfl | hj := List.mem_cons.mp hj
      · exact absurd rfl hne
      · exact hstored j (List.mem_of_mem_erase hj)
  · rw [State.chainAt_setFlow, State.chainAt_moveToFront, hin, List.filter_cons, State.inBucket_eq hk,
      filter_erase_of_nodup hnodup, hchains, hchains]
    by_cases hb : b = f.bucket.toNat
    · simp [hb]
    · have hout : k ∉ r.filter (s.inBucket b) := by simp [State.inBucket_eq hk, Ne.symm hb]
      simp [hb, Ne.symm hb, List.erase_of_not_mem hout]

/-- Every completion leaves the chains in the touch order it makes. -/
theorem Completed.mruOrder {l : Snapshot} {i : Instr} {r : List Handle} (h : Completed s l i t) (hi : s.IndexInv)
    (hl : s.latched = some l) (hr : MruOrder s r) : MruOrder t (touchOrder i s t r) := by
  cases h with
  | refused | raised | createNoResource | lookupOk | lookupNotFound | createFlowNoResource => exact hr.congr rfl rfl
  | createOk | destroyOk => exact .of_empty rfl
  | createFlowOk => exact (hr.insertFlow hi.flowAt_flowCount).congr rfl rfl
  | updateFlowOk flags f st _ _ _ hk =>
    simp only [touchOrder, State.finish_result, hl]
    exact (hr.updateAtFront (g := f.updated st l.operands) hk rfl).congr rfl rfl

/-- Settles O22: the completion's cases, from the empty order after reset. -/
theorem chainsStayInTouchOrder : Obligations.ChainsStayInTouchOrder := by
  refine ⟨.of_empty rfl, fun i s t r hi hr h => ?_⟩
  obtain ⟨l, hl, hc⟩ := exec_completed h
  exact hc.mruOrder hi.index hl hr

/-! ### The lifetime of a stored flow -/

/-- What no update changes of a record: its 5-tuple, `first_seen` and bucket (spec 10_state.md R30). -/
def FlowRecord.SameIdentity (g f : FlowRecord) : Prop :=
  g.l3 = f.l3 ∧ g.src = f.src ∧ g.dst = f.dst ∧ g.sport = f.sport ∧ g.dport = f.dport ∧ g.firstSeen = f.firstSeen ∧
    g.bucket = f.bucket

theorem FlowRecord.SameIdentity.refl (f : FlowRecord) : f.SameIdentity f := ⟨rfl, rfl, rfl, rfl, rfl, rfl, rfl⟩

theorem FlowRecord.updated_sameIdentity (f : FlowRecord) (st : TcpState) (o : Operands) :
    (f.updated st o).SameIdentity f := ⟨rfl, rfl, rfl, rfl, rfl, rfl, rfl⟩

/-- Slot `k` of `t` still holds the flow `f`, or the whole index is gone. -/
def State.KeepsFlow (t : State) (k : Nat) (f : FlowRecord) : Prop :=
  (t.alive = false ∧ ∀ j, t.flowAt j = none) ∨ ∃ g, t.flowAt k = some g ∧ g.SameIdentity f

theorem State.KeepsFlow.of_flowAt {k : Nat} {f : FlowRecord} (h : t.flowAt k = some f) : t.KeepsFlow k f :=
  .inr ⟨f, h, .refl f⟩

/-- A completion keeps every stored flow, or drops the whole index. -/
theorem Completed.keepsFlow {l : Snapshot} {i : Instr} {k : Nat} {f : FlowRecord} (h : Completed s l i t)
    (hi : s.IndexInv) (hk : s.flowAt k = some f) : t.KeepsFlow k f := by
  cases h with
  | refused | raised | createNoResource | lookupOk | lookupNotFound | createFlowNoResource => exact .of_flowAt hk
  | createOk _ ha => rw [hi.flowAt_of_dead ha] at hk; cases hk
  | destroyOk => exact .inl ⟨rfl, s.flowAt_noIndex⟩
  | createFlowOk =>
    have hne : k ≠ s.flowCount.toNat := fun e => by rw [e, hi.flowAt_flowCount] at hk; cases hk
    refine .of_flowAt ?_
    rw [State.flowAt_finish, State.flowAt_setResults, State.flowAt_insertFlow, if_neg hne, hk]
  | updateFlowOk flags f' st _ _ _ hr =>
    rw [State.KeepsFlow, State.flowAt_finish, State.flowAt_setFlow]
    right
    split
    · next e =>
      obtain rfl : f' = f := Option.some.inj (hr.symm.trans (e ▸ hk))
      exact ⟨_, rfl, f'.updated_sameIdentity st l.operands⟩
    · exact ⟨f, hk, .refl f⟩

@[simp] theorem State.writeWord_flows (s : State) (offset : Nat) (v : Word) :
    (s.writeWord offset v).flows = s.flows := by
  obtain h | ⟨r, -, -, h⟩ | ⟨-, -, h⟩ | ⟨-, -, h⟩ := s.writeWord_cases offset v <;> simp [h]

/-- The host's move keeps the flow store. -/
theorem HostMoved.flows_eq (h : HostMoved s t) : t.flows = s.flows := by
  cases h <;> simp

/-- A step keeps every stored flow, or drops the whole index. -/
theorem Stepped.keepsFlow {k : Nat} {f : FlowRecord} (h : Stepped s t) (hi : s.Inv) (hk : s.flowAt k = some f) :
    t.KeepsFlow k f := by
  cases h with
  | command _ _ ts _ _ _ _ _ hc => exact hc.keepsFlow (hi.index.congr rfl) hk
  | illegal | illegalRefused | idle => exact .of_flowAt hk
  | host _ _ _ hm => exact .of_flowAt ((State.flowAt_congr hm.flows_eq k).trans hk)
  | reset ts => exact .inl ⟨rfl, State.flowAt_resetEvent _⟩

/-- Settles O55: a stored flow is kept, or the whole index is dropped, in every case of what a step can do. -/
theorem aFlowsTupleIsFixedAndFlowsLeaveOnlyWithTheIndex :
    Obligations.AFlowsTupleIsFixedAndFlowsLeaveOnlyWithTheIndex :=
  fun _ _ _ _ hi h hk => (step_stepped h).keepsFlow hi hk

end Sys2Proof.Machine

/-!
The registers as the host reads them, the frame of every command, the reset values and the idle engine (spec
10_state.md R20, R40 to R43, R47, 20_memory.md R61).
-/

namespace Sys2Proof.Machine

variable {s t : State}

/-- A read at a register's offset answers the register (spec 20_memory.md R61). -/
@[simp] theorem State.readWord_regOffset (s : State) (r : Reg) : s.readWord (regOffset r) = s.regValue r := by
  have hr : regOffset r < viewBase := (regOffset_lt r).trans (by decide)
  simp [State.readWord, hr]

/-- The RW registers show the operand registers alone (spec 10_state.md R40). -/
theorem State.regValue_congr {r : Reg} (h : t.operands = s.operands) (hr : r.isOperand = true) :
    t.regValue r = s.regValue r := by
  cases r with
  | cmd | status | resultHandle | resultBucket | flowCount | bucketCount | maxFlowsR | maxBucketsR | id => cases hr
  | _ => simp only [State.regValue, h]

/-- Every operand register is 0 where they hold their reset values (spec 10_state.md R47). -/
theorem State.regValue_of_operands_reset {r : Reg} (h : s.operands = Operands.reset) (hr : r.isOperand = true) :
    s.regValue r = 0 := by
  cases r with
  | cmd | status | resultHandle | resultBucket | flowCount | bucketCount | maxFlowsR | maxBucketsR | id => cases hr
  | _ => rw [State.regValue, h]; rfl

/-- A completion leaves the operand registers and the host's side alone. -/
theorem Completed.hostSide_eq {l : Snapshot} {i : Instr} (h : Completed s l i t) :
    t.operands = s.operands ∧ t.program = s.program ∧ t.turns = s.turns ∧ t.reads = s.reads := by
  cases h <;> exact ⟨rfl, rfl, rfl, rfl⟩

/-- Settles O50: the frame holds in every case of a completion, and the RW registers show what it keeps. -/
theorem commandsLeaveTheHostsSideAlone : Obligations.CommandsLeaveTheHostsSideAlone := by
  intro i s t h
  obtain ⟨l, -, hc⟩ := exec_completed h
  obtain ⟨ho, hp, ht, hr⟩ := hc.hostSide_eq
  refine ⟨hc.params_eq, ho, hp, ht, hr, fun r hop => ?_⟩
  rw [State.readWord_regOffset, State.readWord_regOffset, State.regValue_congr ho hop]

/-- Settles O43: each word is the read of one register. -/
theorem informationRegistersShowStateAndParameters : Obligations.InformationRegistersShowStateAndParameters :=
  fun s => ⟨s.readWord_regOffset .flowCount, s.readWord_regOffset .bucketCount, s.readWord_regOffset .maxFlowsR,
    s.readWord_regOffset .maxBucketsR, s.readWord_regOffset .id, s.readWord_regOffset .resultHandle,
    s.readWord_regOffset .resultBucket⟩

/-- Settles O47: an engine turn is used up by an idle engine, and a host with no access left does nothing. -/
theorem anIdleEngineTakesNoStep : Obligations.AnIdleEngineTakesNoStep := by
  refine fun s ts hb => ⟨fun ht => ?_, fun ht hp => ?_⟩
  · simp [step, nextMove, ht, hb, State.setTurns]
  · rw [step_host (.inl ⟨ht, rfl, hb⟩), State.setTurns_self ht]
    simp [hostMove, hp]

/-- Settles O52: the reset values, the registers through what they show. -/
theorem resetHoldsTheSpecsValues : Obligations.ResetHoldsTheSpecsValues := by
  refine ⟨rfl, rfl, rfl, fun _ => rfl, fun _ => rfl, rfl, rfl, rfl, rfl, fun r hr => ?_, rfl, rfl, ?_⟩
  · rw [State.readWord_regOffset, State.regValue_of_operands_reset rfl hr]
  · exact (State.reset.readWord_regOffset .status).trans (by decide)

end Sys2Proof.Machine

/-!
The FTE window and the host's accesses (spec 20_memory.md R61 to R75): what each word of the register block and of the
flow view reads as, what a write changes, and what a host's move leaves as it was.
-/

namespace Sys2Proof.Machine

variable {s t : State}

/-! ### STATUS -/

theorem State.status_busy (s : State) : s.status.getLsbD 0 = s.busy := by
  rw [State.status, BitVec.getLsbD_append]
  simp

theorem State.status_faulted (s : State) : s.status.getLsbD 1 = s.faulted := by
  rw [State.status]
  iterate 2 rw [BitVec.getLsbD_append]
  simp

theorem State.status_alive (s : State) : s.status.getLsbD 2 = s.alive := by
  rw [State.status]
  iterate 3 rw [BitVec.getLsbD_append]
  simp

theorem State.status_bit3 (s : State) : s.status.getLsbD 3 = false := by
  rw [State.status]
  iterate 4 rw [BitVec.getLsbD_append]
  simp

theorem State.status_result (s : State) : s.status.extractLsb' 4 4 = s.result.code := by
  rw [State.status]
  iterate 4 rw [BitVec.extractLsb'_append_eq_of_le (by decide)]
  rw [BitVec.extractLsb'_append_eq_of_add_le (by decide), BitVec.extractLsb'_eq_self]

theorem State.status_fault (s : State) : s.status.extractLsb' 8 8 = s.fault.code := by
  rw [State.status]
  iterate 5 rw [BitVec.extractLsb'_append_eq_of_le (by decide)]
  rw [BitVec.extractLsb'_append_eq_of_add_le (by decide), BitVec.extractLsb'_eq_self]

theorem State.status_high (s : State) : s.status.extractLsb' 16 16 = 0 := by
  rw [State.status]
  iterate 6 rw [BitVec.extractLsb'_append_eq_of_le (by decide)]
  rfl

/-- Settles O38: each field of STATUS by its own lemma; the codes are those of the model, name by name. -/
theorem statusLayoutIsTheSpecs : Obligations.StatusLayoutIsTheSpecs := by
  intro s
  refine ⟨s.status, s.readWord_regOffset .status, s.status_busy, ?_, s.status_alive, s.status_bit3, ?_, ?_,
    s.status_high⟩
  · rw [s.status_faulted, State.faulted_eq_true]
  · rw [s.status_result]
    cases s.result <;> rfl
  · rw [s.status_fault]
    cases s.fault <;> rfl

/-! ### The register block -/

theorem Operands.write_of_not_operand (o : Operands) (v : Word) {r : Reg} (hr : r.isOperand = false) :
    o.write v r = o := by
  cases r with
  | cmd | status | resultHandle | resultBucket | flowCount | bucketCount | maxFlowsR | maxBucketsR | id => rfl
  | _ => cases hr

/-- An RW register shows the value written to it. -/
theorem State.regValue_write_same (s : State) (v : Word) {r : Reg} (hr : r.isOperand = true) :
    (s.setOperands (s.operands.write v r)).regValue r = v := by
  cases r with
  | cmd | status | resultHandle | resultBucket | flowCount | bucketCount | maxFlowsR | maxBucketsR | id => cases hr
  | _ => rfl

/-- No other register shows it: for every two registers, they are the same one or the written component is not the one
shown. -/
theorem State.regValue_write_other (s : State) (v : Word) {r r' : Reg} (h : r' ≠ r) :
    (s.setOperands (s.operands.write v r)).regValue r' = s.regValue r' := by
  cases r <;> cases r' <;> first | exact absurd rfl h | rfl

/-- The RW registers lie in one block (spec 20_memory.md R61). -/
theorem regOffset_of_isOperand {r : Reg} (hr : r.isOperand = true) : 0x010 ≤ regOffset r ∧ regOffset r < 0x048 := by
  cases r with
  | cmd | status | resultHandle | resultBucket | flowCount | bucketCount | maxFlowsR | maxBucketsR | id => cases hr
  | _ => decide

theorem State.writeWord_operand (s : State) (v : Word) {r : Reg} (hr : r.isOperand = true) :
    s.writeWord (regOffset r) v = s.setOperands (s.operands.write v r) := by
  have hc : r ≠ .cmd := by rintro rfl; cases hr
  simp [State.writeWord, State.writeReg, hc]

/-- A write changes nothing unless an RW register or CMD lies at the offset (spec 20_memory.md R67, R72). -/
theorem State.writeWord_readOnly (s : State) {offset : Nat} (v : Word) (h0 : offset ≠ 0)
    (hr : ∀ r, regAt offset = some r → r.isOperand = false) : s.writeWord offset v = s := by
  obtain h | ⟨r, h, -, hw⟩ | ⟨h, -⟩ | ⟨h, -⟩ := s.writeWord_cases offset v
  · exact h
  · rw [hw, Operands.write_of_not_operand _ _ (hr r h)]; rfl
  · exact absurd h h0
  · exact absurd h h0

/-- The register block shows the registers alone. -/
theorem State.readWord_regs_congr {offset : Nat} (ho : offset < viewBase)
    (h : ∀ r, regAt offset = some r → t.regValue r = s.regValue r) : t.readWord offset = s.readWord offset := by
  simp only [State.readWord, ho, if_true]
  cases hr : regAt offset with
  | none => rfl
  | some r => exact h r hr

theorem regAt_eq_none {offset : Nat} (h : 0x05C ≤ offset) : regAt offset = none := by
  cases hr : regAt offset with
  | none => rfl
  | some r =>
    have := regOffset_of_regAt hr
    have := regOffset_lt r
    omega

/-- Settles O39: the written register shows the value, every other register its own, and the flow view none of it. -/
theorem operandRegistersReadBack : Obligations.OperandRegistersReadBack := by
  intro s r v hr
  rw [s.writeWord_operand v hr]
  refine ⟨by rw [State.readWord_regOffset, s.regValue_write_same v hr], fun offset hne => ?_⟩
  rcases lt_or_ge offset viewBase with ho | ho
  · refine State.readWord_regs_congr ho fun r' hr' => s.regValue_write_other v ?_
    rintro rfl
    exact hne (regOffset_of_regAt hr').symm
  · exact State.readWord_view_congr (s := s) (t := s.setOperands (s.operands.write v r)) rfl rfl rfl rfl ho

/-! ### The flow view -/

theorem State.readWord_of_ge_window {offset : Nat} (h : s.windowBytes ≤ offset) : s.readWord offset = 0 := by
  have hw : viewBase ≤ s.windowBytes := Nat.le_add_right ..
  rw [State.readWord, if_neg (by omega), if_neg (by omega)]

/-- An offset of the flow view reads the word of the record it lies in (spec 20_memory.md R67). -/
theorem State.readWord_of_lt_window {offset : Nat} (ho : viewBase ≤ offset) (h : offset < s.windowBytes) :
    s.readWord offset = s.viewWord ((offset - viewBase) / recordBytes) ((offset - viewBase) % recordBytes) :=
  (if_neg (not_lt.mpr ho)).trans (if_pos h)

/-- Word `o` of slot `h`'s record, inside the window. -/
theorem State.readWord_record {h o : Nat} (hh : h < s.params.maxFlows.toNat) (ho : o < 0x80) :
    s.readWord (0x1000 + h * 0x80 + o) = s.viewWord h o := by
  have hw : 0x1000 + h * 0x80 + o < s.windowBytes := by
    simp only [State.windowBytes, viewBase, recordBytes]; omega
  have hb : viewBase ≤ 0x1000 + h * 0x80 + o := by simp only [viewBase]; omega
  have hd : (0x1000 + h * 0x80 + o - viewBase) / recordBytes = h := by simp only [viewBase, recordBytes]; omega
  have hm : (0x1000 + h * 0x80 + o - viewBase) % recordBytes = o := by simp only [viewBase, recordBytes]; omega
  rw [State.readWord_of_lt_window hb hw, hd, hm]

theorem State.viewWord_of_invalid {h : Nat} (hv : s.validFlow h = none) (o : Nat) : s.viewWord h o = 0 := by
  simp [State.viewWord, hv]

theorem State.viewWord_viewFieldOffset {h : Nat} {f : FlowRecord} (hv : s.validFlow h = some f) (x : ViewField) :
    s.viewWord h (viewFieldOffset x) = fieldWord f x := by
  simp [State.viewWord, hv]

/-- The words of a record from 0x4C on are reserved (spec 20_memory.md R68). -/
theorem State.viewWord_reserved (s : State) (h : Nat) {o : Nat} (ho : 0x4C ≤ o) : s.viewWord h o = 0 := by
  have hn : viewFieldAt o = none := by
    cases hx : viewFieldAt o with
    | none => rfl
    | some x =>
      have := viewFieldOffset_of_viewFieldAt hx
      have := viewFieldOffset_lt x
      omega
  unfold State.viewWord
  cases s.validFlow h <;> simp [hn]

/-- Settles O40: no register lies at a reserved offset, no field at a reserved word of a record, and only CMD and the RW
registers take a write. -/
theorem reservedOffsetsReadZeroAndIgnoreWrites : Obligations.ReservedOffsetsReadZeroAndIgnoreWrites := by
  refine fun s offset => ⟨?_, fun v h => s.writeWord_readOnly v (by omega) fun r hr => ?_⟩
  · rintro (⟨h, h'⟩ | h | ⟨h, h'⟩ | rfl)
    · have ho : offset < viewBase := by simp only [viewBase]; omega
      simp [State.readWord, ho, regAt_eq_none h]
    · exact State.readWord_of_ge_window h
    · rcases lt_or_ge offset s.windowBytes with hw | hw
      · rw [State.readWord_of_lt_window h hw]
        exact s.viewWord_reserved _ h'
      · exact State.readWord_of_ge_window hw
    · exact s.readWord_regOffset .cmd
  · by_contra hop
    have := regOffset_of_regAt hr
    have := regOffset_of_isOperand (by simpa using hop)
    omega

/-- Settles O42: a record beyond the window reads 0, and so does every word of an invalid handle's record within it. -/
theorem anInvalidHandlesRecordReadsZero : Obligations.AnInvalidHandlesRecordReadsZero := by
  intro s h o hv ho
  rcases lt_or_ge h s.params.maxFlows.toNat with hh | hh
  · rw [State.readWord_record hh ho]
    exact State.viewWord_of_invalid (if_neg hv) o
  · refine State.readWord_of_ge_window ?_
    simp only [State.windowBytes, viewBase, recordBytes]; omega

/-! ### The words of a record -/

theorem metaWord_valid (f : FlowRecord) : (metaWord f).getLsbD 0 = true := by
  rw [metaWord, BitVec.getLsbD_append]
  simp

theorem metaWord_l3 (f : FlowRecord) : (metaWord f).extractLsb' 4 2 = f.l3.code := by
  rw [metaWord]
  iterate 2 rw [BitVec.extractLsb'_append_eq_of_le (by decide)]
  rw [BitVec.extractLsb'_append_eq_of_add_le (by decide), BitVec.extractLsb'_eq_self]

theorem metaWord_state (f : FlowRecord) : (metaWord f).extractLsb' 8 3 = f.state.code := by
  rw [metaWord]
  iterate 4 rw [BitVec.extractLsb'_append_eq_of_le (by decide)]
  rw [BitVec.extractLsb'_append_eq_of_add_le (by decide), BitVec.extractLsb'_eq_self]

theorem metaWord_reserved (f : FlowRecord) :
    (metaWord f).extractLsb' 1 3 = 0 ∧ (metaWord f).extractLsb' 6 2 = 0 ∧ (metaWord f).extractLsb' 11 21 = 0 := by
  rw [metaWord]
  refine ⟨?_, ?_, ?_⟩
  · rw [BitVec.extractLsb'_append_eq_of_le (by decide), BitVec.extractLsb'_append_eq_of_add_le (by decide)]
    rfl
  · iterate 3 rw [BitVec.extractLsb'_append_eq_of_le (by decide)]
    rw [BitVec.extractLsb'_append_eq_of_add_le (by decide)]
    rfl
  · iterate 5 rw [BitVec.extractLsb'_append_eq_of_le (by decide)]
    rfl

theorem hiWord_append_loWord (v : BitVec 64) : hiWord v ++ loWord v = v :=
  BitVec.extractLsb'_append_extractLsb' (w := 32) (len := 32)

theorem State.readWord_viewField {h : Nat} {f : FlowRecord} (hh : h < s.params.maxFlows.toNat)
    (hv : s.validFlow h = some f) (x : ViewField) :
    s.readWord (0x1000 + h * 0x80 + viewFieldOffset x) = fieldWord f x := by
  rw [State.readWord_record hh ((viewFieldOffset_lt x).trans (by decide)), State.viewWord_viewFieldOffset hv]

/-- Settles O41: each word is a field of the record, and META and the two-word fields are taken apart by their own
lemmas. -/
theorem flowViewShowsTheRecord : Obligations.FlowViewShowsTheRecord := by
  intro s h f ha hc hh hr view
  have hv : s.validFlow h = some f := (if_pos ⟨ha, hc⟩).trans hr
  have word : ∀ x, view (viewFieldOffset x) = fieldWord f x := State.readWord_viewField hh hv
  have hmeta : view 0x00 = metaWord f := word .metaInfo
  obtain ⟨z1, z6, z11⟩ := metaWord_reserved f
  refine ⟨?_, word .ports, ?_, ?_, ?_, ?_, ?_, ?_, word .bucket, fun o ho ho' => ?_⟩
  · rw [hmeta]
    refine ⟨metaWord_valid f, z1, ?_, z6, ?_, z11⟩
    · rw [metaWord_l3]
      cases f.l3 <;> rfl
    · rw [metaWord_state]
      cases f.state <;> rfl
  · rw [show view 0x08 = addrWord f.src 0 from word .src0, show view 0x0C = addrWord f.src 1 from word .src1,
      show view 0x10 = addrWord f.src 2 from word .src2, show view 0x14 = addrWord f.src 3 from word .src3]
    cases f.src <;> exact ⟨rfl, rfl, rfl, rfl⟩
  · rw [show view 0x18 = addrWord f.dst 0 from word .dst0, show view 0x1C = addrWord f.dst 1 from word .dst1,
      show view 0x20 = addrWord f.dst 2 from word .dst2, show view 0x24 = addrWord f.dst 3 from word .dst3]
    cases f.dst <;> exact ⟨rfl, rfl, rfl, rfl⟩
  · exact (congrArg₂ _ (word .firstSeenHi) (word .firstSeenLo)).trans (hiWord_append_loWord _)
  · exact (congrArg₂ _ (word .lastSeenHi) (word .lastSeenLo)).trans (hiWord_append_loWord _)
  · exact (congrArg₂ _ (word .byteCountHi) (word .byteCountLo)).trans (hiWord_append_loWord _)
  · exact (congrArg₂ _ (word .packetCountHi) (word .packetCountLo)).trans (hiWord_append_loWord _)
  · exact (State.readWord_record hh (by omega)).trans (s.viewWord_reserved h ho)

/-! ### The host's move -/

/-- Settles O45: the host's turn is used up, and what the access reads does not depend on the turns. -/
theorem hostReadsHaveNoSideEffect : Obligations.HostReadsHaveNoSideEffect := by
  refine fun s rest ts ht => ⟨fun offset ha hp => ?_, fun hp => ?_⟩
  · simp only [step_host ht, hostMove, State.setTurns_program, hp, accessInInterface, ha, BEq.rfl, Bool.and_self,
      if_true]
    rfl
  · have hb : ((s.setTurns ts).readWord (regOffset .status)).getLsbD 0 = s.busy := by
      rw [State.readWord_regOffset]
      exact State.status_busy _
    simp only [step_host ht, hostMove, State.setTurns_program, hp, hb]
    rfl

/-- Settles O46: the host's turn is used up, and the access fails the interface's test. -/
theorem accessesOutsideTheInterfaceAreRefused : Obligations.AccessesOutsideTheInterfaceAreRefused := by
  intro s rest ts width offset v ht hbad
  have ha : accessInInterface width offset = false := by
    simpa [accessInInterface, imp_iff_not_or] using hbad
  constructor <;> intro hp <;> simp [step_host ht, hostMove, hp, ha]

/-- A completion leaves the engine idle (spec 70_reset_and_hazards.md R246). -/
theorem Completed.busy_eq_false {l : Snapshot} {i : Instr} (h : Completed s l i t) : t.busy = false := by
  cases h <;> rfl

/-- A write that sets BUSY is an issue: at CMD, latching the written word with the operand registers. -/
theorem State.latched_of_writeWord_busy {offset : Nat} {v : Word} (hb : s.busy = false)
    (hw : (s.writeWord offset v).busy = true) :
    offset = 0 ∧ (s.writeWord offset v).latched = some ⟨v, s.operands⟩ := by
  obtain h | ⟨r, -, -, h⟩ | ⟨h0, -, h⟩ | ⟨-, hb', -⟩ := s.writeWord_cases offset v
  · simp [h, hb] at hw
  · simp [h, hb] at hw
  · exact ⟨h0, by simp [h]⟩
  · simp [hb] at hb'

/-- A host's move that sets BUSY performs a CMD write. -/
theorem HostMoved.cmdWrite_of_busy (h : HostMoved s t) (hb : s.busy = false) (hbt : t.busy = true) :
    ∃ v rest, s.program = .write 4 0x000 v :: rest ∧ t.latched = some ⟨v, s.operands⟩ := by
  cases h with
  | idle => simp [hb] at hbt
  | read => simp [hb] at hbt
  | write offset v rest hp =>
    obtain ⟨rfl, hl⟩ := State.latched_of_writeWord_busy (s := s.setProgram rest) hb hbt
    exact ⟨v, rest, hp, hl⟩

/-- Settles O48: a step of the engine and a reset event leave it idle, and a host's move that sets BUSY is a CMD
write. -/
theorem onlyACmdWriteStartsTheEngine : Obligations.OnlyACmdWriteStartsTheEngine := by
  intro s t h hb hbt
  cases step_stepped h with
  | command _ _ _ _ _ _ _ _ hc => simp [hc.busy_eq_false] at hbt
  | illegal | illegalRefused | reset => simp at hbt
  | idle => simp [hb] at hbt
  | host _ _ _ hm => exact hm.cmdWrite_of_busy (by simpa using hb) hbt

/-- What the last completed command left behind beside the index: its result and the result registers. -/
def State.resultPart (s : State) : ResultCode × Word × Word := (s.result, s.resultHandle, s.resultBucket)

theorem State.resultPart_eq_iff : t.resultPart = s.resultPart ↔
    t.result = s.result ∧ t.resultHandle = s.resultHandle ∧ t.resultBucket = s.resultBucket := by
  simp [State.resultPart]

/-- No write changes the index or the results. -/
theorem State.writeWord_indexPart_resultPart (s : State) (offset : Nat) (v : Word) :
    (s.writeWord offset v).indexPart = s.indexPart ∧ (s.writeWord offset v).resultPart = s.resultPart := by
  obtain h | ⟨r, -, -, h⟩ | ⟨-, -, h⟩ | ⟨-, -, h⟩ := s.writeWord_cases offset v
  all_goals rw [h]; exact ⟨rfl, rfl⟩

/-- A write changes the fault latch only by a collision (spec 70_reset_and_hazards.md R245). -/
theorem State.writeWord_fault (s : State) (offset : Nat) (v : Word) :
    (s.writeWord offset v).fault = s.fault ∨
      (s.busy = true ∧ (s.writeWord offset v).fault = .busyCollision) := by
  obtain h | ⟨r, -, -, h⟩ | ⟨-, -, h⟩ | ⟨-, hb, h⟩ := s.writeWord_cases offset v <;> rw [h]
  · exact .inl rfl
  · exact .inl rfl
  · exact .inl rfl
  · by_cases hf : s.fault = .noFault
    · exact .inr ⟨hb, by simp [hf]⟩
    · exact .inl (by simp [hf])

/-- The host's move keeps the index and the results. -/
theorem HostMoved.indexPart_resultPart_eq (h : HostMoved s t) :
    t.indexPart = s.indexPart ∧ t.resultPart = s.resultPart := by
  cases h with
  | idle | read => exact ⟨rfl, rfl⟩
  | write offset v rest => exact (s.setProgram rest).writeWord_indexPart_resultPart offset v

/-- The host's move changes the fault latch only by a collision. -/
theorem HostMoved.fault_cases (h : HostMoved s t) :
    t.fault = s.fault ∨ (s.busy = true ∧ t.fault = .busyCollision) := by
  cases h with
  | idle | read => exact .inl rfl
  | write => exact State.writeWord_fault ..

/-- Settles O49: the host's move keeps the index and the results, and the flow view shows the index alone. -/
theorem hostMovesLeaveResultsAndIndexAlone : Obligations.HostMovesLeaveResultsAndIndexAlone := by
  intro s t ts ht h
  have hm : HostMoved (s.setTurns ts) t := hostMove_next (step_host ht ▸ h)
  obtain ⟨hi, hres⟩ := hm.indexPart_resultPart_eq
  obtain ⟨hp, ha, hb, hc, hf, hch⟩ := State.indexPart_eq_iff.mp hi
  obtain ⟨hr, hrh, hrb⟩ := State.resultPart_eq_iff.mp hres
  exact ⟨ha, hb, hc, hf, hch, hr, hrh, hrb, hm.fault_cases, fun _ ho => State.readWord_view_congr ha hc hf hp ho⟩

/-! ### Progress -/

/-- An illegal word's completion goes on wherever a snapshot is latched. -/
theorem State.completeIllegal_next {l : Snapshot} (hl : s.latched = some l) : ∃ t, s.completeIllegal = .next t := by
  by_cases hf : s.fault = .noFault
  · exact ⟨_, State.command_eq_rule hl hf⟩
  · exact ⟨_, State.command_eq_refuse hl hf⟩

/-- A command's completion goes on wherever a snapshot is latched and no valid handle names an empty slot. -/
theorem State.IndexInv.exec_next (hi : s.IndexInv) {l : Snapshot} (hl : s.latched = some l) (i : Instr) :
    ∃ t, exec i s = .next t := by
  cases h : exec i s with
  | next t => exact ⟨t, rfl⟩
  | refused r => exact absurd h (exec_ne_refused i s r)
  | fault f =>
    obtain ⟨hn, -⟩ | ⟨-, l, -, -, hlt, hr⟩ := exec_fault h
    · simp [hl] at hn
    · have hs := (hi.slots l.operands.handleIn.toNat).mpr (by bv_omega)
      simp [hr] at hs

/-- A busy engine in a sound state takes its completion step (spec 70_reset_and_hazards.md R246). -/
theorem State.Inv.step_next_of_busy (hi : s.Inv) (hb : s.busy = true) {ts : List Turn} (ht : s.EngineNext ts) :
    ∃ t, step s = .next t := by
  obtain ⟨l, hl⟩ := Option.isSome_iff_exists.mp (hi.busy_iff ▸ hb)
  rw [step_completion hb hl ht]
  cases decode l.cw with
  | command i => exact State.IndexInv.exec_next (s := s.setTurns ts) (hi.index.congr rfl) hl i
  | illegal => exact State.completeIllegal_next (s := s.setTurns ts) hl

/-- Whose move is next: the busy engine's, the host's, or one that always goes on (an idle engine's turn or a reset
event). -/
theorem step_agent_cases (s : State) :
    (∃ ts, s.busy = true ∧ s.EngineNext ts) ∨ (∃ ts, s.HostNext ts) ∨ ∃ t, step s = .next t := by
  cases ht : s.turns with
  | nil =>
    cases hb : s.busy with
    | true => exact .inl ⟨[], rfl, .inl ⟨ht, rfl⟩⟩
    | false => exact .inr (.inl ⟨[], .inl ⟨ht, rfl, hb⟩⟩)
  | cons turn ts =>
    cases turn with
    | host => exact .inr (.inl ⟨ts, .inr ht⟩)
    | engine =>
      cases hb : s.busy with
      | true => exact .inl ⟨ts, rfl, .inr ht⟩
      | false => exact .inr (.inr ⟨_, (anIdleEngineTakesNoStep s ts hb).1 ht⟩)
    | reset => exact .inr (.inr ⟨(s.setTurns ts).resetEvent, by simp only [step, nextMove, ht]⟩)

/-- In a sound state a step goes on, or it is the host's move. -/
theorem State.Inv.step_next_or_host (hi : s.Inv) :
    (∃ t, step s = .next t) ∨ ∃ ts, step s = hostMove (s.setTurns ts) := by
  obtain ⟨ts, hb, ht⟩ | ⟨ts, ht⟩ | h := step_agent_cases s
  · exact .inl (hi.step_next_of_busy hb ht)
  · exact .inr ⟨ts, step_host ht⟩
  · exact .inl h

/-- Settles O59: a step that does not go on is the host's move, which never is a model fault and refuses only an access
outside the interface. -/
theorem noStepOfASoundStateIsStuck : Obligations.NoStepOfASoundStateIsStuck := by
  intro s hi
  obtain ⟨t, h⟩ | ⟨ts, h⟩ := hi.step_next_or_host <;> rw [h]
  · exact ⟨fun _ => nofun, fun _ => nofun⟩
  · exact ⟨hostMove_ne_fault _, fun _ => hostMove_refused⟩

end Sys2Proof.Machine

/-!
The command word (spec 30_encoding.md R91 to R97): a legal word is its OP, FLAGS and L3 with RSV = 0, and decoding reads
exactly these fields. The round trip and the opcode table's rows both follow from `decode_eq_command_iff`.
-/

namespace Sys2Proof

/-! ### The codes of the fields -/

theorem L3Tag.ofCode_eq_iff {c : BitVec 2} {l3 : L3Tag} : L3Tag.ofCode c = l3 ↔ l3.code = c := by
  revert c
  cases l3 <;> decide

theorem L3Tag.ofCode_code (l3 : L3Tag) : L3Tag.ofCode l3.code = l3 := L3Tag.ofCode_eq_iff.mpr rfl

theorem Flags.ofCode_code (f : Flags) : Flags.ofCode f.code = f := by
  obtain ⟨syn, ack, fin, rst⟩ := f
  cases syn <;> cases ack <;> cases fin <;> cases rst <;> rfl

/-- The flags that FLAGS of a word names are the word's bits 4 to 7. -/
theorem Flags.ofCode_flagsField_eq_iff {cw : Word} {f : Flags} :
    Flags.ofCode (flagsField cw) = f ↔
      f.syn = cw.getLsbD 4 ∧ f.ack = cw.getLsbD 5 ∧ f.fin = cw.getLsbD 6 ∧ f.rst = cw.getLsbD 7 := by
  cases f
  simp [Flags.ofCode, flagsField, eq_comm]

/-! ### The fields of a word -/

@[simp] theorem opField_commandWord (op flags : BitVec 4) (l3 : BitVec 2) :
    opField (commandWord op flags l3) = op := by
  rw [opField, commandWord, BitVec.extractLsb'_append_eq_of_add_le (by decide), BitVec.extractLsb'_eq_self]

@[simp] theorem flagsField_commandWord (op flags : BitVec 4) (l3 : BitVec 2) :
    flagsField (commandWord op flags l3) = flags := by
  rw [flagsField, commandWord, BitVec.extractLsb'_append_eq_of_le (by decide),
    BitVec.extractLsb'_append_eq_of_add_le (by decide), BitVec.extractLsb'_eq_self]

@[simp] theorem l3Field_commandWord (op flags : BitVec 4) (l3 : BitVec 2) :
    l3Field (commandWord op flags l3) = l3 := by
  rw [l3Field, commandWord]
  iterate 2 rw [BitVec.extractLsb'_append_eq_of_le (by decide)]
  rw [BitVec.extractLsb'_append_eq_of_add_le (by decide), BitVec.extractLsb'_eq_self]

@[simp] theorem rsvField_commandWord (op flags : BitVec 4) (l3 : BitVec 2) :
    rsvField (commandWord op flags l3) = 0 := by
  rw [rsvField, commandWord]
  iterate 3 rw [BitVec.extractLsb'_append_eq_of_le (by decide)]
  rw [BitVec.extractLsb'_eq_self]
  rfl

/-- A word whose RSV is 0 is put together from its other three fields (spec 30_encoding.md R91). -/
theorem commandWord_of_fields {cw : Word} (h : rsvField cw = 0) :
    commandWord (opField cw) (flagsField cw) (l3Field cw) = cw := by
  have hr : 0#22 = cw.extractLsb' 10 22 := h.symm
  rw [commandWord, hr, opField, flagsField, l3Field]
  iterate 3 rw [BitVec.extractLsb'_append_extractLsb'_eq_extractLsb' (by decide)]
  exact BitVec.extractLsb'_eq_self

/-- The four byte lanes of a word, put together, are the word (spec 20_memory.md R70). -/
theorem lanes_append (w : Word) :
    w.extractLsb' 24 8 ++ w.extractLsb' 16 8 ++ w.extractLsb' 8 8 ++ w.extractLsb' 0 8 = w := by
  iterate 3 rw [BitVec.extractLsb'_append_extractLsb'_eq_extractLsb' (by decide)]
  exact BitVec.extractLsb'_eq_self

theorem decodeBytes_lanes (w : Word) (rest : List Byte) : decodeBytes (lanes w ++ rest) = (decode w, rest) := by
  simp only [lanes, List.cons_append, List.nil_append, decodeBytes, lanes_append]

/-! ### Mask and match -/

theorem opField_masked (cw : Word) : opField (cw &&& 0xFFFFFC0F#32) = opField cw := by
  rw [opField, BitVec.extractLsb'_and]
  exact BitVec.and_allOnes

theorem rsvField_masked (cw : Word) : rsvField (cw &&& 0xFFFFFC0F#32) = rsvField cw := by
  rw [rsvField, BitVec.extractLsb'_and]
  exact BitVec.and_allOnes

/-- The mask of every row of the opcode table keeps RSV and OP (spec 30_encoding.md R96): the match value is an OP with
nothing beside it exactly when OP is that one and RSV is 0. -/
theorem masked_eq_iff {cw : Word} {op : BitVec 4} :
    cw &&& 0xFFFFFC0F#32 = op.setWidth 32 ↔ rsvField cw = 0 ∧ opField cw = op := by
  constructor
  · intro h
    rw [← rsvField_masked, ← opField_masked, h, ← Laws.TableRow.word_selected op 0 0, rsvField_masked, opField_masked]
    exact ⟨rsvField_commandWord .., opField_commandWord ..⟩
  · rintro ⟨hr, rfl⟩
    rw [← Laws.TableRow.word_selected _ (flagsField cw) (l3Field cw), commandWord_of_fields hr]

/-! ### Decoding -/

/-- The operands of a command that its word carries are what the field values `flags` and `l3` stand for; a field the
command does not read is free (spec 30_encoding.md R92 to R94). -/
def Instr.ReadsFields (flags : BitVec 4) (l3 : BitVec 2) : Instr → Prop
  | .create => True
  | .destroy => True
  | .lookup tag => L3Tag.ofCode l3 = tag
  | .createFlow tag f => L3Tag.ofCode l3 = tag ∧ Flags.ofCode flags = f
  | .updateFlow f => Flags.ofCode flags = f

/-- The words that decode to a command, exactly (spec 30_encoding.md R96). -/
theorem decode_eq_command_iff {cw : Word} {i : Instr} :
    decode cw = .command i ↔
      (rsvField cw = 0 ∧ opField cw = i.op) ∧ i.ReadsFields (flagsField cw) (l3Field cw) := by
  constructor
  · intro h
    unfold decode at h
    split at h
    · cases h
    · next hr =>
      have hr : rsvField cw = 0 := not_not.mp hr
      split at h <;> cases h <;> next ho => exact ⟨⟨hr, BitVec.eq_of_toNat_eq ho⟩, by simp [Instr.ReadsFields]⟩
  · rintro ⟨⟨hr, ho⟩, hf⟩
    cases i with
    | create | destroy => simp [decode, hr, ho, Instr.op]
    | lookup | updateFlow =>
      obtain rfl := hf
      simp [decode, hr, ho, Instr.op]
    | createFlow =>
      obtain ⟨rfl, rfl⟩ := hf
      simp [decode, hr, ho, Instr.op]

/-- The illegal words, exactly (spec 30_encoding.md R95): every other word is a command. -/
theorem decode_illegal_iff {cw : Word} :
    (∃ why, decode cw = .illegal why) ↔ rsvField cw ≠ 0 ∨ opField cw = 0 ∨ 6 ≤ (opField cw).toNat := by
  unfold decode
  split
  · next hr => exact ⟨fun _ => .inl hr, fun _ => ⟨_, rfl⟩⟩
  · next hr =>
    split
    case h_6 h1 h2 h3 h4 h5 =>
      refine ⟨fun _ => .inr ?_, fun _ => ⟨_, rfl⟩⟩
      rcases Nat.eq_zero_or_pos (opField cw).toNat with h0 | h0
      · exact .inl (BitVec.eq_of_toNat_eq h0)
      · exact .inr (by change _ ≠ _ at h1 h2 h3 h4 h5; omega)
    all_goals next ho => simp [not_not.mp hr, ho, ← BitVec.toNat_inj (y := 0#4)]

theorem decode_command_or_illegal (cw : Word) : (∃ i, decode cw = .command i) ∨ ∃ why, decode cw = .illegal why := by
  cases h : decode cw with
  | command i => exact .inl ⟨i, rfl⟩
  | illegal why => exact .inr ⟨why, rfl⟩

theorem decode_commandWord {i : Instr} {flags : BitVec 4} {l3 : BitVec 2} (h : i.ReadsFields flags l3) :
    decode (commandWord i.op flags l3) = .command i :=
  decode_eq_command_iff.mpr (by simpa using h)

theorem decode_encode (i : Instr) : decode (encode i) = .command i := by
  cases i with
  | create | destroy => exact decode_commandWord trivial
  | lookup tag => exact decode_commandWord tag.ofCode_code
  | createFlow tag f => exact decode_commandWord ⟨tag.ofCode_code, f.ofCode_code⟩
  | updateFlow f => exact decode_commandWord f.ofCode_code

/-- Settles O1: the round trip of the word, and the four lanes put together are the word. -/
theorem decodeOfEncodeGivesTheCommandBack : Obligations.DecodeOfEncodeGivesTheCommandBack :=
  fun i rest _ => ⟨decode_encode i, by rw [decodeBytes_lanes, decode_encode]⟩

/-- Settles O2: the words of a command have its OP under the mask and its operands in their fields. -/
theorem maskAndMatchSelectTheCommand : Obligations.MaskAndMatchSelectTheCommand := by
  intro cw
  have select : ∀ i, decode cw = .command i ↔
      cw &&& 0xFFFFFC0F#32 = i.op.setWidth 32 ∧ i.ReadsFields (flagsField cw) (l3Field cw) := fun i => by
    rw [decode_eq_command_iff, masked_eq_iff]
  refine ⟨(select .create).trans (and_iff_left trivial), (select .destroy).trans (and_iff_left trivial), fun l3 => ?_,
    fun l3 flags => ?_, fun flags => ?_, decode_illegal_iff⟩
  · exact (select (.lookup l3)).trans (and_congr_right' L3Tag.ofCode_eq_iff)
  · exact (select (.createFlow l3 flags)).trans
      (and_congr_right' (and_congr L3Tag.ofCode_eq_iff Flags.ofCode_flagsField_eq_iff))
  · exact (select (.updateFlow flags)).trans (and_congr_right' Flags.ofCode_flagsField_eq_iff)

/-- Settles O5: the fixed words, evaluated. -/
theorem sampleWordsDecodeAsTheSpecSays : Obligations.SampleWordsDecodeAsTheSpecSays := by
  unfold Obligations.SampleWordsDecodeAsTheSpecSays
  decide

end Sys2Proof

/-!
The completion step of a latched word (spec 30_encoding.md R94, R95): it depends on the command the word decodes to and
on the operands of the snapshot, not on the word itself.
-/

namespace Sys2Proof.Machine

variable {s : State}

/-- Fault entry on a healthy engine: the latch, the result and the end of the command, and nothing else (spec
60_exceptions.md R214). -/
theorem State.raise_of_healthy (hf : s.fault = .noFault) (c : FaultCode) :
    s.raise c = { s with fault := c, result := .fault, busy := false, latched := none } := by
  simp [State.raise, State.latchFault, State.finish, hf]

/-- The completion step of an illegal word. -/
theorem step_of_illegal {l : Snapshot} {ts : List Turn} {why : Illegal} (hb : s.busy = true)
    (hl : s.latched = some l) (ht : s.EngineNext ts) (hd : decode l.cw = .illegal why) :
    step s = (s.setTurns ts).completeIllegal := by
  rw [step_completion hb hl ht, hd]

/-- The completion step of a legal word. -/
theorem step_of_command {l : Snapshot} {ts : List Turn} {i : Instr} (hb : s.busy = true)
    (hl : s.latched = some l) (ht : s.EngineNext ts) (hd : decode l.cw = .command i) :
    step s = exec i (s.setTurns ts) := by
  rw [step_completion hb hl ht, hd]

/-- Settles O3: an illegal word faults on a healthy engine, and a word that is not illegal is a command. -/
theorem illegalWordRaisesIllegalCommand : Obligations.IllegalWordRaisesIllegalCommand := by
  intro s l ts hb hl ht hf
  have illegal_iff : (l.cw.extractLsb' 0 4 = 0 ∨ 6 ≤ (l.cw.extractLsb' 0 4).toNat ∨ l.cw.extractLsb' 10 22 ≠ 0) ↔
      ∃ why, decode l.cw = .illegal why :=
    or_rotate.symm.trans decode_illegal_iff.symm
  rw [illegal_iff]
  constructor
  · rintro ⟨why, hd⟩
    rw [step_of_illegal hb hl ht hd, State.completeIllegal, State.command_eq_rule (s := s.setTurns ts) hl hf,
      State.raise_of_healthy (s := s.setTurns ts) hf]
    rfl
  · intro hlegal
    obtain ⟨i, hd⟩ := (decode_command_or_illegal l.cw).resolve_right hlegal
    exact ⟨i, hd, step_of_command hb hl ht hd⟩

/-- A command reads the operands of its snapshot, never the command word beside them. -/
theorem exec_latch_congr (i : Instr) (s : State) (w w' : Word) (o : Operands) :
    exec i (s.latch ⟨w, o⟩) = exec i (s.latch ⟨w', o⟩) := by
  cases i with
  | create | destroy => rfl
  | lookup => simp only [exec, execLookup, State.command, State.latch_latched]; rfl
  | createFlow => simp only [exec, execCreateFlow, State.command, State.latch_latched]; rfl
  | updateFlow => simp only [exec, execUpdateFlow, State.command, State.latch_latched]; rfl

/-- The completion step does not tell apart two words with the OP of a command and operands it reads alike. -/
theorem step_latch_commandWord_congr {ts : List Turn} (i : Instr) {flags flags' : BitVec 4} {l3 l3' : BitVec 2}
    (o : Operands) (ht : s.EngineNext ts) (h : i.ReadsFields flags l3) (h' : i.ReadsFields flags' l3') :
    step (s.latch ⟨commandWord i.op flags l3, o⟩) = step (s.latch ⟨commandWord i.op flags' l3', o⟩) := by
  rw [step_of_command (s := s.latch ⟨commandWord i.op flags l3, o⟩) rfl rfl ht (decode_commandWord h),
    step_of_command (s := s.latch ⟨commandWord i.op flags' l3', o⟩) rfl rfl ht (decode_commandWord h')]
  exact exec_latch_congr i (s.setTurns ts) _ _ o

/-- Settles O4: in each case both words carry the same command. -/
theorem ignoredFieldsMakeNoDifference : Obligations.IgnoredFieldsMakeNoDifference := by
  rintro s o ts op flags flags' l3 l3' ht (rfl | rfl | ⟨rfl, rfl⟩ | ⟨rfl, rfl⟩)
  · exact step_latch_commandWord_congr .create o ht trivial trivial
  · exact step_latch_commandWord_congr .destroy o ht trivial trivial
  · exact step_latch_commandWord_congr (.lookup (.ofCode l3)) o ht rfl rfl
  · exact step_latch_commandWord_congr (.updateFlow (.ofCode flags)) o ht rfl rfl

end Sys2Proof.Machine

/-!
The five commands branch by branch (spec 40_flow_index.md R110, R112, R115, R120, R127): on a healthy engine one
equation for each path of each command, in the check order of 60_exceptions.md R220. `Completed` says what an answered
command can have been; these say which answer a command gives.
-/

namespace Sys2Proof.Machine

theorem L3Tag.supported_eq_true {l3 : L3Tag} : l3.supported = true ↔ l3 = .ipv4 ∨ l3 = .ipv6 := by
  cases l3 <;> simp [L3Tag.supported]

theorem L3Tag.supported_eq_false {l3 : L3Tag} : l3.supported = false ↔ l3 = .other2 ∨ l3 = .other3 := by
  cases l3 <;> simp [L3Tag.supported]

/-- What an answered command can have been, with the snapshot already known. -/
theorem exec_completed_of_latched {s t : State} {l : Snapshot} {i : Instr} (hl : s.latched = some l)
    (h : exec i s = .next t) : Completed s l i t := by
  obtain ⟨l', hl', hc⟩ := exec_completed h
  obtain rfl : l' = l := Option.some.inj (hl'.symm.trans hl)
  exact hc

section Branches

variable {s : State} {l : Snapshot} (hl : s.latched = some l) (hf : s.fault = .noFault)
include hl hf

/-! ### CREATE and DESTROY -/

theorem exec_create_indexExists (ha : s.alive = true) : exec .create s = .next (s.raise .indexExists) := by
  simp [exec, execCreate, State.command_eq_rule hl hf, ha]

theorem exec_create_badBucketCount (ha : s.alive = false) (hn : l.operands.nbucketsIn = 0) :
    exec .create s = .next (s.raise .badBucketCount) := by
  simp [exec, execCreate, State.command_eq_rule hl hf, ha, hn]

theorem exec_create_noResource (ha : s.alive = false) (hm : s.params.maxBuckets < l.operands.nbucketsIn) :
    exec .create s = .next (s.finish .noResource) := by
  have hn : l.operands.nbucketsIn ≠ 0 := by bv_omega
  rw [exec, execCreate, State.command_eq_rule hl hf, if_neg (by simp [ha]), if_neg hn, if_pos hm]

theorem exec_create_ok (ha : s.alive = false) (hn : l.operands.nbucketsIn ≠ 0)
    (hm : l.operands.nbucketsIn ≤ s.params.maxBuckets) :
    exec .create s = .next ((s.newIndex l.operands.nbucketsIn).finish .ok) := by
  rw [exec, execCreate, State.command_eq_rule hl hf, if_neg (by simp [ha]), if_neg hn, if_neg (BitVec.not_lt.mpr hm)]

theorem exec_destroy_noIndex (ha : s.alive = false) : exec .destroy s = .next (s.raise .noIndex) := by
  simp [exec, execDestroy, State.command_eq_rule hl hf, ha]

theorem exec_destroy_ok (ha : s.alive = true) : exec .destroy s = .next (s.noIndex.finish .ok) := by
  simp [exec, execDestroy, State.command_eq_rule hl hf, ha]

/-! ### LOOKUP -/

variable {l3 : L3Tag}

theorem exec_lookup_noIndex (ha : s.alive = false) : exec (.lookup l3) s = .next (s.raise .noIndex) := by
  simp [exec, execLookup, State.command_eq_rule hl hf, ha]

theorem exec_lookup_unsupportedL3 (ha : s.alive = true) (hs : l3.supported = false) :
    exec (.lookup l3) s = .next (s.raise .unsupportedL3) := by
  simp [exec, execLookup, State.command_eq_rule hl hf, ha, hs]

theorem exec_lookup_ok (ha : s.alive = true) (hs : l3.supported = true) {b : Word} {h : Handle}
    (hb : b = bucketOf s.params (l.operands.tuple l3) s.bucketCount)
    (hh : (s.chainAt b.toNat).find? (s.slotMatches (l.operands.tuple l3)) = some h) :
    exec (.lookup l3) s = .next ((s.setResults h b).finish .ok) := by
  subst hb
  simp [exec, execLookup, State.command_eq_rule hl hf, ha, hs, hh]

theorem exec_lookup_notFound (ha : s.alive = true) (hs : l3.supported = true) {b : Word}
    (hb : b = bucketOf s.params (l.operands.tuple l3) s.bucketCount)
    (hh : (s.chainAt b.toNat).find? (s.slotMatches (l.operands.tuple l3)) = none) :
    exec (.lookup l3) s = .next ((s.setResults noHandle b).finish .notFound) := by
  subst hb
  simp only [exec, execLookup, State.command_eq_rule hl hf, ha, hs, hh]
  rfl

/-! ### CREATE_FLOW -/

variable {flags : Flags}

theorem exec_createFlow_noIndex (ha : s.alive = false) :
    exec (.createFlow l3 flags) s = .next (s.raise .noIndex) := by
  simp [exec, execCreateFlow, State.command_eq_rule hl hf, ha]

theorem exec_createFlow_unsupportedL3 (ha : s.alive = true) (hs : l3.supported = false) :
    exec (.createFlow l3 flags) s = .next (s.raise .unsupportedL3) := by
  simp [exec, execCreateFlow, State.command_eq_rule hl hf, ha, hs]

theorem exec_createFlow_createNotSyn (ha : s.alive = true) (hs : l3.supported = true) (hy : flags.syn = false) :
    exec (.createFlow l3 flags) s = .next (s.raise .createNotSyn) := by
  simp [exec, execCreateFlow, State.command_eq_rule hl hf, ha, hs, hy]

theorem exec_createFlow_noResource (ha : s.alive = true) (hs : l3.supported = true) (hy : flags.syn = true)
    (hm : s.flowCount = s.params.maxFlows) {b : Word}
    (hb : b = bucketOf s.params (l.operands.tuple l3) s.bucketCount) :
    exec (.createFlow l3 flags) s = .next ((s.setResults noHandle b).finish .noResource) := by
  simp [exec, execCreateFlow, State.command_eq_rule hl hf, ha, hs, hy, hm, hb]

theorem exec_createFlow_ok (ha : s.alive = true) (hs : l3.supported = true) (hy : flags.syn = true)
    (hm : s.flowCount ≠ s.params.maxFlows) {b : Word}
    (hb : b = bucketOf s.params (l.operands.tuple l3) s.bucketCount) :
    exec (.createFlow l3 flags) s = .next
      (((s.insertFlow s.flowCount (newRecord (l.operands.tuple l3) flags l.operands b) b).setResults
        s.flowCount b).finish .ok) := by
  simp [exec, execCreateFlow, State.command_eq_rule hl hf, ha, hs, hy, hm, hb]

/-! ### UPDATE_FLOW -/

theorem exec_updateFlow_noIndex (ha : s.alive = false) :
    exec (.updateFlow flags) s = .next (s.raise .noIndex) := by
  simp [exec, execUpdateFlow, State.command_eq_rule hl hf, ha]

theorem exec_updateFlow_invalidHandle (ha : s.alive = true) (hh : s.flowCount ≤ l.operands.handleIn) :
    exec (.updateFlow flags) s = .next (s.raise .invalidHandle) := by
  simp [exec, execUpdateFlow, State.command_eq_rule hl hf, ha, hh]

theorem exec_updateFlow_ok (ha : s.alive = true) (hh : l.operands.handleIn < s.flowCount) {f : FlowRecord}
    (hr : s.flowAt l.operands.handleIn.toNat = some f) {st : TcpState} (hn : nextState f.state flags = some st) :
    exec (.updateFlow flags) s = .next
      (((s.moveToFront l.operands.handleIn f.bucket).setFlow l.operands.handleIn.toNat
        (f.updated st l.operands)).finish .ok) := by
  simp [exec, execUpdateFlow, State.command_eq_rule hl hf, ha, BitVec.not_le.mpr hh, hr, hn]

end Branches

end Sys2Proof.Machine

/-!
The life of an index (spec 40_flow_index.md R110 to R112), the result registers (R114), and the commands that store no
flow: LOOKUP's answers (R115, R118) and the paths of CREATE_FLOW and UPDATE_FLOW that are turned away (R120, R124, R125,
R127).
-/

namespace Sys2Proof.Machine

variable {s t : State}

/-! ### CREATE and DESTROY -/

/-- Settles O15: CREATE's four branches; the new index lists no flow and no chain. -/
theorem createMakesAnEmptyIndex : Obligations.CreateMakesAnEmptyIndex := by
  intro s l hl hf
  refine ⟨fun ha hn hm => ?_, fun ha => ?_, fun ha hn => ?_, fun ha hm => ?_⟩
  · rw [exec_create_ok hl hf ha hn hm]
    refine ⟨rfl, fun t h => ?_⟩
    cases h
    exact ⟨fun _ => rfl, fun _ => rfl⟩
  · rw [exec_create_indexExists hl hf ha, State.raise_of_healthy hf]
  · rw [exec_create_badBucketCount hl hf ha hn, State.raise_of_healthy hf]
  · rw [exec_create_noResource hl hf ha hm]
    rfl

/-- A completion that makes an index alive is CREATE's; the others keep the bucket count of an index they leave
alive. -/
theorem Completed.alive_cases {l : Snapshot} {i : Instr} (h : Completed s l i t) :
    (s.alive = false ∧ i = .create) ∨ t.alive = false ∨ (t.alive = s.alive ∧ t.bucketCount = s.bucketCount) := by
  cases h with
  | createOk _ ha => exact .inl ⟨ha, rfl⟩
  | destroyOk => exact .inr (.inl rfl)
  | refused | raised | createNoResource | lookupOk | lookupNotFound | createFlowNoResource | createFlowOk
    | updateFlowOk => exact .inr (.inr ⟨rfl, rfl⟩)

theorem Completed.bucketCount_eq {l : Snapshot} {i : Instr} (h : Completed s l i t) (hs : s.alive = true)
    (ht : t.alive = true) : t.bucketCount = s.bucketCount := by
  obtain ⟨hd, -⟩ | hd | ⟨-, hb⟩ := h.alive_cases
  · simp [hs] at hd
  · simp [ht] at hd
  · exact hb

theorem Stepped.bucketCount_eq (h : Stepped s t) (hs : s.alive = true) (ht : t.alive = true) :
    t.bucketCount = s.bucketCount := by
  cases h with
  | command _ _ _ _ _ _ _ _ hc => exact hc.bucketCount_eq hs ht
  | illegal | illegalRefused | idle => rfl
  | host _ _ _ hm =>
    obtain ⟨hi, -⟩ := hm.indexPart_resultPart_eq
    obtain ⟨-, -, hb, -⟩ := State.indexPart_eq_iff.mp hi
    exact hb
  | reset => cases ht

/-- Settles O16: what a completion does to `alive` and the bucket count, and that no other step changes a live index's
count. -/
theorem onlyCreateMakesAnIndexAndItsSizeIsFixed : Obligations.OnlyCreateMakesAnIndexAndItsSizeIsFixed := by
  refine ⟨fun i s t h => ?_, fun s t h => (step_stepped h).bucketCount_eq⟩
  obtain ⟨l, -, hc⟩ := exec_completed h
  refine ⟨fun hs ht => ?_, hc.bucketCount_eq⟩
  obtain ⟨-, hi⟩ | hd | ⟨ha, -⟩ := hc.alive_cases
  · exact hi
  · simp [ht] at hd
  · simp [hs, ht] at ha

/-- The flow view shows the index alone. -/
theorem State.readWord_view_of_indexPart {offset : Nat} (he : t.indexPart = s.indexPart) (ho : viewBase ≤ offset) :
    t.readWord offset = s.readWord offset := by
  obtain ⟨hp, ha, -, hc, hf, -⟩ := State.indexPart_eq_iff.mp he
  exact State.readWord_view_congr ha hc hf hp ho

/-- Where no handle is valid the whole flow view reads 0 (spec 20_memory.md R69). -/
theorem State.readWord_view_of_none_valid (hv : ∀ k, s.validFlow k = none) {offset : Nat} (ho : viewBase ≤ offset) :
    s.readWord offset = 0 := by
  rcases lt_or_ge offset s.windowBytes with h | h
  · rw [State.readWord_of_lt_window ho h, State.viewWord_of_invalid (hv _)]
  · exact State.readWord_of_ge_window h

theorem State.validFlow_of_dead (ha : s.alive = false) (k : Nat) : s.validFlow k = none := by
  simp [State.validFlow, ha]

/-- Settles O17: DESTROY's two branches; with no index left the flow view reads 0. -/
theorem destroyReleasesTheIndex : Obligations.DestroyReleasesTheIndex := by
  refine fun s l hl hf => ⟨fun ha => ?_, fun ha => ?_⟩
  · rw [exec_destroy_ok hl hf ha]
    refine ⟨rfl, fun t h offset ho => ?_⟩
    cases h
    exact State.readWord_view_of_none_valid (State.validFlow_of_dead rfl) ho
  · rw [exec_destroy_noIndex hl hf ha, State.raise_of_healthy hf]

/-! ### The result registers -/

/-- A completion leaves the result registers alone, or it is of a LOOKUP or CREATE_FLOW that neither faults nor is
refused. -/
theorem Completed.results_cases {l : Snapshot} {i : Instr} (h : Completed s l i t) :
    (t.resultHandle = s.resultHandle ∧ t.resultBucket = s.resultBucket) ∨
      (((∃ l3, i = .lookup l3) ∨ ∃ l3 flags, i = .createFlow l3 flags) ∧ t.result ≠ .refused ∧ t.result ≠ .fault) := by
  cases h with
  | lookupOk | lookupNotFound => exact .inr ⟨.inl ⟨_, rfl⟩, nofun, nofun⟩
  | createFlowNoResource | createFlowOk => exact .inr ⟨.inr ⟨_, _, rfl⟩, nofun, nofun⟩
  | refused | raised | createNoResource | createOk | destroyOk | updateFlowOk => exact .inl ⟨rfl, rfl⟩

/-- The completion of an illegal word leaves the result registers alone. -/
theorem State.completeIllegal_results (h : s.completeIllegal = .next t) :
    t.resultHandle = s.resultHandle ∧ t.resultBucket = s.resultBucket := by
  obtain ⟨l, -, ⟨-, rfl⟩ | ⟨-, h⟩⟩ := State.command_next h
  · exact ⟨rfl, rfl⟩
  · cases h
    exact ⟨rfl, rfl⟩

/-- Settles O18: the step completes an illegal word or a command. -/
theorem resultRegistersAreWrittenOnlyByLookupAndCreateFlow :
    Obligations.ResultRegistersAreWrittenOnlyByLookupAndCreateFlow := by
  intro s t l ts hb hl ht h hcase
  obtain ⟨i, hd⟩ | ⟨why, hd⟩ := decode_command_or_illegal l.cw
  · rw [step_of_command hb hl ht hd] at h
    obtain ⟨l', -, hc⟩ := exec_completed h
    obtain hkept | ⟨hi, hnr, hnf⟩ := hc.results_cases
    · exact hkept
    · obtain ⟨hnl, hnc⟩ | hr | hr := hcase
      · obtain ⟨l3, rfl⟩ | ⟨l3, flags, rfl⟩ := hi
        · exact absurd hd (hnl l3)
        · exact absurd hd (hnc l3 flags)
      · exact absurd hr hnr
      · exact absurd hr hnf
  · rw [step_of_illegal hb hl ht hd] at h
    exact State.completeIllegal_results (s := s.setTurns ts) h

/-! ### LOOKUP -/

/-- Settles O19: LOOKUP's branches; the tuple spelled out is the one the snapshot's operands assemble. -/
theorem lookupAnswersTheFirstMatchOfTheBucket : Obligations.LookupAnswersTheFirstMatchOfTheBucket := by
  refine fun s l l3 hl hf => ⟨fun ha => ?_, fun ha hs => ?_, fun ha hs => ?_⟩
  · rw [exec_lookup_noIndex hl hf ha, State.raise_of_healthy hf]
  · rw [exec_lookup_unsupportedL3 hl hf ha (L3Tag.supported_eq_false.mpr hs), State.raise_of_healthy hf]
  · intro o src dst tuple b
    have hs := L3Tag.supported_eq_true.mpr hs
    cases hh : (s.chainAt b.toNat).find? (s.slotMatches tuple) with
    | some h => exact exec_lookup_ok hl hf ha hs rfl hh
    | none => exact exec_lookup_notFound hl hf ha hs rfl hh

/-- Settles O20: no path of LOOKUP changes the index, and the flow view shows the index alone. -/
theorem lookupDoesNotTouch : Obligations.LookupDoesNotTouch := by
  intro l3 s t h
  obtain ⟨l, -, hc⟩ := exec_completed h
  have hi : t.indexPart = s.indexPart := by cases hc <;> rfl
  obtain ⟨-, ha, hb, hn, hfl, hch⟩ := State.indexPart_eq_iff.mp hi
  exact ⟨hch, hfl, hn, ha, hb, fun _ => State.readWord_view_of_indexPart hi⟩

/-! ### CREATE_FLOW turned away -/

/-- Settles O24: the branch at capacity. -/
theorem createFlowAtCapacityChangesNoFlow : Obligations.CreateFlowAtCapacityChangesNoFlow :=
  fun _ _ _ _ hl hf ha hs hy hm => exec_createFlow_noResource hl hf ha (L3Tag.supported_eq_true.mpr hs) hy hm rfl

/-- Settles O25: every completion that is not a refusal or a fault needs SYN. -/
theorem createFlowWithoutSynFaults : Obligations.CreateFlowWithoutSynFaults := by
  refine fun s l3 flags hy => ⟨fun t h => ?_, fun l hl hf ha hs => ?_⟩
  · obtain ⟨l, -, hc⟩ := exec_completed h
    cases hc with
    | refused _ hf => exact ⟨rfl, rfl, rfl, hf⟩
    | raised _ c hf hc => exact ⟨rfl, rfl, rfl, by simpa [hf] using hc⟩
    | createFlowNoResource _ _ _ _ _ _ hsyn => simp [hy] at hsyn
    | createFlowOk _ _ _ _ _ _ hsyn => simp [hy] at hsyn
  · rw [exec_createFlow_createNotSyn hl hf ha (L3Tag.supported_eq_true.mpr hs) hy, State.raise_of_healthy hf]

/-- Settles O26: the first two checks of CREATE_FLOW. -/
theorem createFlowWithNoIndexOrAnUnsupportedFamilyFaults :
    Obligations.CreateFlowWithNoIndexOrAnUnsupportedFamilyFaults := by
  refine fun s l l3 flags hl hf => ⟨fun ha => ?_, fun ha hs => ?_⟩
  · rw [exec_createFlow_noIndex hl hf ha, State.raise_of_healthy hf]
  · rw [exec_createFlow_unsupportedL3 hl hf ha (L3Tag.supported_eq_false.mpr hs), State.raise_of_healthy hf]

/-! ### UPDATE_FLOW turned away, and what it reads -/

/-- Settles O29: the first two checks of UPDATE_FLOW; NO_HANDLE is at or above every flow count. -/
theorem updateFlowOfAnInvalidHandleFaults : Obligations.UpdateFlowOfAnInvalidHandleFaults := by
  intro s l flags hl hf
  have hinvalid : s.alive = true → s.flowCount ≤ l.operands.handleIn → exec (.updateFlow flags) s = .next
      { s with fault := .invalidHandle, result := .fault, busy := false, latched := none } := fun ha hh => by
    rw [exec_updateFlow_invalidHandle hl hf ha hh, State.raise_of_healthy hf]
  refine ⟨fun ha => ?_, hinvalid, fun ha hh => hinvalid ha (by bv_omega)⟩
  rw [exec_updateFlow_noIndex hl hf ha, State.raise_of_healthy hf]

/-- Settles O31: the packet enters UPDATE_FLOW's rule through the handle and the updated record alone. -/
theorem updateFlowReadsNoPacketTuple : Obligations.UpdateFlowReadsNoPacketTuple := by
  intro s l l' flags hh hlo hhi hlen
  have hupdated : ∀ (f : FlowRecord) st, f.updated st l.operands = f.updated st l'.operands := fun f st => by
    simp only [FlowRecord.updated, Operands.timestamp, Operands.length, hlo, hhi, hlen]
  simp only [exec, execUpdateFlow, State.command, State.latch_latched, hh, hupdated]
  rfl

end Sys2Proof.Machine

/-!
What LOOKUP finds (spec 40_flow_index.md R115 to R117, R123, R132). A flow that matches a packet lies in the packet's
bucket, since the Hasher and the Matcher treat both directions alike (41_hasher.md R158, 42_matcher.md R174); so the
search of one chain is a search of all stored flows, and a flow at the head of its chain is the one found.
-/

namespace Sys2Proof.Machine

variable {s t : State}

/-! ### Matching and hashing agree -/

/-- A flow matches its own tuple and the reverse of it, nothing else (spec 42_matcher.md R174). -/
theorem flowMatches_iff {f : FlowRecord} {p : FiveTuple} :
    flowMatches f p = true ↔ p = f.tuple ∨ p = f.tuple.reverse := by
  obtain ⟨l3, src, dst, sport, dport⟩ := p
  simp only [flowMatches, sameDirection, FiveTuple.reverse, FlowRecord.tuple, FiveTuple.mk.injEq, Bool.and_eq_true,
    Bool.or_eq_true, beq_iff_eq, addrEq_iff]
  grind

/-- Both directions of a connection hash to the same bucket (spec 41_hasher.md R158). -/
theorem bucketOf_reverse (p : Params) (x : FiveTuple) (n : Word) : bucketOf p x.reverse n = bucketOf p x n := by
  simp only [bucketOf, hashSum, FiveTuple.reverse, BitVec.add_comm]

/-- A sound record that matches a packet lies in the packet's bucket and has the packet's supported tag. -/
theorem FlowRecord.Ok.of_matches {p : Params} {n : Word} {f : FlowRecord} (h : f.Ok p n) {x : FiveTuple}
    (hm : flowMatches f x = true) : f.bucket = bucketOf p x n ∧ x.l3.supported = true := by
  obtain rfl | rfl := flowMatches_iff.mp hm
  · exact ⟨h.bucket_eq, h.supported⟩
  · exact ⟨h.bucket_eq.trans (bucketOf_reverse ..).symm, h.supported⟩

theorem State.slotMatches_eq {k : Handle} {f : FlowRecord} (h : s.flowAt k.toNat = some f) (x : FiveTuple) :
    s.slotMatches x k = flowMatches f x := by
  simp only [State.slotMatches, h]

theorem State.slotMatches_eq_true {x : FiveTuple} {k : Handle} :
    s.slotMatches x k = true ↔ ∃ f, s.flowAt k.toNat = some f ∧ flowMatches f x = true := by
  cases hk : s.flowAt k.toNat <;> simp [State.slotMatches, hk]

/-- Every flow that matches a packet lies in the packet's bucket. -/
theorem State.IndexInv.inBucket_of_slotMatches (hi : s.IndexInv) {x : FiveTuple} {k : Handle}
    (hm : s.slotMatches x k = true) : s.inBucket (bucketOf s.params x s.bucketCount).toNat k = true := by
  obtain ⟨f, hk, hm⟩ := State.slotMatches_eq_true.mp hm
  rw [State.inBucket_eq hk, ((hi.records _ f hk).of_matches hm).1, beq_self_eq_true]

/-! ### The search of one chain is a search of all stored flows -/

/-- The first match of the packet's chain is the most recently touched match of all (spec 40_flow_index.md R117). -/
theorem MruOrder.find?_chainAt {r : List Handle} (hr : MruOrder s r) (hi : s.IndexInv) (x : FiveTuple) :
    (s.chainAt (bucketOf s.params x s.bucketCount).toNat).find? (s.slotMatches x) = r.find? (s.slotMatches x) := by
  obtain ⟨-, -, hchains⟩ := hr
  have hall : ∀ k, (s.inBucket (bucketOf s.params x s.bucketCount).toNat k && s.slotMatches x k) = s.slotMatches x k :=
    fun k => Bool.and_eq_right_iff_imp.mpr hi.inBucket_of_slotMatches
  simp only [hchains, List.find?_filter, ← Bool.and_eq_true, Bool.decide_eq_true, hall]

/-- Every stored flow is named by a handle (spec 10_state.md R33). -/
theorem State.IndexInv.exists_handle (hi : s.IndexInv) {k : Nat} {f : FlowRecord} (hk : s.flowAt k = some f) :
    ∃ h : Handle, h.toNat = k := by
  have hlt := (hi.slots k).mp (by simp [hk])
  exact ⟨BitVec.ofNat 32 k, by have := s.flowCount.isLt; simp; omega⟩

/-- The packet's chain has no match exactly when no stored flow matches (spec 40_flow_index.md R116). -/
theorem State.IndexInv.find?_chainAt_eq_none (hi : s.IndexInv) (x : FiveTuple) :
    (s.chainAt (bucketOf s.params x s.bucketCount).toNat).find? (s.slotMatches x) = none ↔
      ∀ k f, s.flowAt k = some f → flowMatches f x = false := by
  rw [List.find?_eq_none]
  constructor
  · intro h k f hk
    obtain ⟨k, rfl⟩ := hi.exists_handle hk
    by_contra hm
    have hm := Bool.of_not_eq_false hm
    have hmem := hi.mem_chainAt hk
    rw [((hi.records _ f hk).of_matches hm).1] at hmem
    exact h k hmem ((State.slotMatches_eq hk x).trans hm)
  · intro h k _ hm
    obtain ⟨f, hk, hm⟩ := State.slotMatches_eq_true.mp hm
    simp [h _ f hk] at hm

/-- Settles O21: LOOKUP searches the packet's chain, and that search is one of all stored flows. -/
theorem lookupReturnsTheMostRecentlyTouchedMatch : Obligations.LookupReturnsTheMostRecentlyTouchedMatch := by
  intro s l l3 r hi hr hl hf ha hs
  have hs := L3Tag.supported_eq_true.mpr hs
  have hnone := hi.index.find?_chainAt_eq_none (l.operands.tuple l3)
  have hsome : (∃ k f, s.flowAt k = some f ∧ flowMatches f (l.operands.tuple l3) = true) ↔
      ¬∀ k f, s.flowAt k = some f → flowMatches f (l.operands.tuple l3) = false := by
    simp
  rw [← hr.find?_chainAt hi.index, hsome, ← hnone]
  cases hh : (s.chainAt (bucketOf s.params (l.operands.tuple l3) s.bucketCount).toNat).find?
      (s.slotMatches (l.operands.tuple l3)) with
  | some h => exact ⟨_, exec_lookup_ok hl hf ha hs rfl hh, by simp⟩
  | none => exact ⟨_, exec_lookup_notFound hl hf ha hs rfl hh, by simp⟩

/-! ### A flow at the head of its chain is the one found -/

/-- On a healthy live index, a LOOKUP of a packet matched by the flow at the head of its chain returns that flow. -/
theorem State.IndexInv.exec_lookup_of_head (hi : t.IndexInv) (hf : t.fault = .noFault) (ha : t.alive = true)
    {k : Handle} {f : FlowRecord} (hk : t.flowAt k.toNat = some f)
    (hhead : (t.chainAt f.bucket.toNat).head? = some k) {l : Snapshot} {l3 : L3Tag}
    (hm : flowMatches f (l.operands.tuple l3) = true) :
    ∃ u, exec (.lookup l3) (t.latch l) = .next u ∧ u.result = .ok ∧ u.resultHandle = k := by
  obtain ⟨hb, hs⟩ := (hi.records _ f hk).of_matches hm
  obtain ⟨rest, hc⟩ := List.head?_eq_some_iff.mp hhead
  have hfind : (t.chainAt f.bucket.toNat).find? (t.slotMatches (l.operands.tuple l3)) = some k := by
    rw [hc, List.find?_cons_of_pos ((State.slotMatches_eq hk _).trans hm)]
  exact ⟨_, exec_lookup_ok (s := t.latch l) rfl hf ha hs hb hfind, rfl, rfl⟩

/-- Every command keeps the invariant (spec 10_state.md R32). -/
theorem State.Inv.exec (hi : s.Inv) {i : Instr} (h : exec i s = .next t) : t.Inv := by
  obtain ⟨l, -, hc⟩ := exec_completed h
  exact hc.inv hi

/-- Settles O27: the new flow heads its chain and matches its own tuple and the reverse. -/
theorem aDuplicateFlowShadowsTheOlderOne : Obligations.ADuplicateFlowShadowsTheOlderOne := by
  intro s t l l' l3 flags hi hl hf ha hs hy hm h htuple
  have hs := L3Tag.supported_eq_true.mpr hs
  have hti := (hi.exec h).index
  obtain ⟨b, hb⟩ : ∃ b, b = bucketOf s.params (l.operands.tuple l3) s.bucketCount := ⟨_, rfl⟩
  obtain rfl := Host.Outcome.next.inj ((exec_createFlow_ok hl hf ha hs hy hm hb).symm.trans h)
  refine hti.exec_lookup_of_head (f := newRecord (l.operands.tuple l3) flags l.operands b) hf ha ?_ ?_
    (flowMatches_iff.mpr htuple)
  · rw [State.flowAt_finish, State.flowAt_setResults, State.flowAt_insertFlow, if_pos rfl]
  · exact congrArg List.head? ((s.chainAt_insertFlow ..).trans (if_pos rfl))

/-- Settles O32: of UPDATE_FLOW's completions only the update has the result OK, and it moves the flow to the head. -/
theorem anUpdatedFlowIsFoundFirst : Obligations.AnUpdatedFlowIsFoundFirst := by
  intro s t l l' flags l3 f hi hl h hok hk
  have hti := (hi.exec h).index
  cases exec_completed_of_latched hl h with
  | refused | raised => cases hok
  | updateFlowOk _ g st hf ha _ hr hn =>
    obtain rfl : g.updated st l.operands = f := by
      simpa [State.flowAt_setFlow] using hk
    have hhead := congrArg List.head? ((s.chainAt_moveToFront l.operands.handleIn g.bucket _).trans (if_pos rfl))
    exact ⟨hhead, hti.exec_lookup_of_head hf ha hk hhead⟩

end Sys2Proof.Machine

/-!
The two commands that store something in a live index: CREATE_FLOW below capacity (spec 40_flow_index.md R121, R122) and
UPDATE_FLOW of a valid handle (R130), by what they leave in the stores and by what the flow view shows of it.
-/

namespace Sys2Proof.Machine

variable {s t : State}

/-! ### The stores -/

/-- Settles O23: the branch of CREATE_FLOW that inserts the new record, read back slot by slot and chain by chain. -/
theorem createFlowStoresTheNewFlowAtTheHead : Obligations.CreateFlowStoresTheNewFlowAtTheHead := by
  intro s l l3 flags hl hf ha hs hy hm o src dst sport dport b
  have h := exec_createFlow_ok hl hf ha (L3Tag.supported_eq_true.mpr hs) hy hm (b := b) rfl
  refine ⟨_, h, rfl, rfl, rfl, rfl, ?_, ?_, fun k hk => ?_, fun k hk => ?_, hf, ha, rfl, rfl, rfl, fun hi => hi.exec h⟩
  · rw [State.flowAt_finish, State.flowAt_setResults, State.flowAt_insertFlow, if_pos rfl]
    rfl
  · rw [State.chainAt_finish, State.chainAt_setResults, State.chainAt_insertFlow, if_pos rfl]
  · rw [State.chainAt_finish, State.chainAt_setResults, State.chainAt_insertFlow, if_neg hk]
  · rw [State.flowAt_finish, State.flowAt_setResults, State.flowAt_insertFlow, if_neg hk]

/-- Settles O28: the branch of UPDATE_FLOW that updates the record, read back slot by slot and chain by chain; outside
CLOSE the transition function has a successor. -/
theorem updateFlowUpdatesOneFlowAndMovesItToFront : Obligations.UpdateFlowUpdatesOneFlowAndMovesItToFront := by
  intro s l flags f hl hf ha hh hr hst
  obtain ⟨st, hn⟩ := Option.ne_none_iff_exists'.mp (nextState_eq_none.not.mpr hst : nextState f.state flags ≠ none)
  have h := exec_updateFlow_ok hl hf ha hh hr hn
  refine ⟨st, _, hn, h, rfl, hf, ?_, ?_, fun k hk => ?_, fun k hk => ?_, rfl, ha, rfl, rfl, rfl, rfl, rfl,
    fun hi => hi.exec h⟩
  · rw [State.flowAt_finish, State.flowAt_setFlow, if_pos rfl]
    rfl
  · rw [State.chainAt_finish, State.chainAt_setFlow, State.chainAt_moveToFront, if_pos rfl]
  · rw [State.chainAt_finish, State.chainAt_setFlow, State.chainAt_moveToFront, if_neg hk]
  · rw [State.flowAt_finish, State.flowAt_setFlow, State.flowAt_moveToFront, if_neg hk]

/-! ### The flow view -/

/-- Outside the record of slot `h` the flow view shows the other slots alone (spec 20_memory.md R67). -/
theorem State.readWord_outside_record {h offset : Nat} (hp : t.params = s.params)
    (hv : ∀ k, k ≠ h → t.validFlow k = s.validFlow k) (ho : viewBase ≤ offset)
    (hout : offset < recordOffset h ∨ recordOffset h + recordBytes ≤ offset) :
    t.readWord offset = s.readWord offset := by
  have hk : (offset - viewBase) / recordBytes ≠ h := by
    simp only [recordOffset, viewBase, recordBytes] at hout ho ⊢
    omega
  have hw : t.windowBytes = s.windowBytes := by simp only [State.windowBytes, hp]
  rcases lt_or_ge offset s.windowBytes with hlt | hge
  · rw [State.readWord_of_lt_window ho hlt, State.readWord_of_lt_window ho (hw ▸ hlt), State.viewWord, State.viewWord,
      hv _ hk]
  · rw [State.readWord_of_ge_window hge, State.readWord_of_ge_window (hw ▸ hge)]

/-- A flow stored in slot `flow_count`, with the count one higher, makes no other handle valid or invalid. -/
theorem State.IndexInv.validFlow_insertFlow (hi : s.IndexInv) (hm : s.flowCount ≠ s.params.maxFlows) (f : FlowRecord)
    (b : Word) {k : Nat} (hk : k ≠ s.flowCount.toNat) :
    (s.insertFlow s.flowCount f b).validFlow k = s.validFlow k := by
  have hlt : k < (s.flowCount + 1).toNat ↔ k < s.flowCount.toNat := by
    rw [(hi.flowCount_succ hm).1]
    omega
  simp only [State.validFlow, State.insertFlow_alive, State.insertFlow_flowCount, hlt, State.flowAt_insertFlow,
    if_neg hk]

/-- An update of slot `h` makes no other handle valid or invalid. -/
theorem State.validFlow_updateAtFront (s : State) (h : Handle) (f : FlowRecord) (b : Word) {k : Nat}
    (hk : k ≠ h.toNat) : ((s.moveToFront h b).setFlow h.toNat f).validFlow k = s.validFlow k := by
  simp only [State.validFlow, State.setFlow_alive, State.setFlow_flowCount, State.moveToFront_alive,
    State.moveToFront_flowCount, State.flowAt_setFlow, State.flowAt_moveToFront, if_neg hk]

/-- CREATE changes no word of the flow view: it stores nothing, or it makes an index with no flow where none was. -/
theorem Completed.readWord_create {l : Snapshot} (h : Completed s l .create t) {offset : Nat} (ho : viewBase ≤ offset) :
    t.readWord offset = s.readWord offset := by
  cases h with
  | refused | raised | createNoResource => exact State.readWord_view_of_indexPart rfl ho
  | createOk _ ha =>
    have hnew : ∀ k, ((s.newIndex l.operands.nbucketsIn).finish .ok).validFlow k = none := fun k => by
      simp [State.validFlow]
    rw [State.readWord_view_of_none_valid hnew ho, State.readWord_view_of_none_valid (State.validFlow_of_dead ha) ho]

/-- CREATE_FLOW changes words of slot `flow_count`'s record only. -/
theorem Completed.readWord_createFlow {l : Snapshot} {l3 : L3Tag} {flags : Flags}
    (h : Completed s l (.createFlow l3 flags) t) (hi : s.IndexInv) {offset : Nat} (ho : viewBase ≤ offset)
    (hout : offset < recordOffset s.flowCount.toNat ∨ recordOffset s.flowCount.toNat + recordBytes ≤ offset) :
    t.readWord offset = s.readWord offset := by
  cases h with
  | refused | raised | createFlowNoResource => exact State.readWord_view_of_indexPart rfl ho
  | createFlowOk _ _ b _ _ _ _ hm =>
    exact State.readWord_outside_record rfl (fun _ => hi.validFlow_insertFlow hm _ b) ho hout

/-- UPDATE_FLOW changes words of its handle's record only. -/
theorem Completed.readWord_updateFlow {l : Snapshot} {flags : Flags} (h : Completed s l (.updateFlow flags) t)
    {offset : Nat} (ho : viewBase ≤ offset)
    (hout : offset < recordOffset l.operands.handleIn.toNat ∨
      recordOffset l.operands.handleIn.toNat + recordBytes ≤ offset) :
    t.readWord offset = s.readWord offset := by
  cases h with
  | refused | raised => exact State.readWord_view_of_indexPart rfl ho
  | updateFlowOk _ f st =>
    exact State.readWord_outside_record rfl (fun _ => s.validFlow_updateAtFront _ _ f.bucket) ho hout

/-- Settles O44: the three commands' completions, each by its own lemma. -/
theorem flowCommandsChangeOneFlowViewRecord : Obligations.FlowCommandsChangeOneFlowViewRecord := by
  intro s t l hi hl
  exact ⟨fun _ _ h _ => (exec_completed_of_latched hl h).readWord_createFlow hi.index,
    fun _ h _ => (exec_completed_of_latched hl h).readWord_updateFlow,
    fun h _ => (exec_completed_of_latched hl h).readWord_create⟩

end Sys2Proof.Machine

/-!
The counters of a flow over the life of its index (spec 40_flow_index.md R131). While the index lives, every step either
leaves the flow's record as it is or is an UPDATE_FLOW of its handle with OK; `Tracks` is what a run keeps for this to
go on, and `CountsFrom` adds up what the updates did.
-/

namespace Sys2Proof.Machine

variable {s t : State}

/-! ### One step -/

/-- A live index holds the record `f` under the valid handle `h`, within R31's bound on the flow count. -/
structure State.Tracks (s : State) (h : Handle) (f : FlowRecord) : Prop where
  alive : s.alive = true
  valid : h < s.flowCount
  count_le : s.flowCount ≤ s.params.maxFlows
  flow : s.flowAt h.toNat = some f

theorem State.Tracks.congr {h : Handle} {f : FlowRecord} (hs : s.Tracks h f) (he : t.indexPart = s.indexPart) :
    t.Tracks h f := by
  obtain ⟨hp, ha, -, hc, hfl, -⟩ := State.indexPart_eq_iff.mp he
  exact ⟨ha ▸ hs.alive, hc ▸ hs.valid, hc ▸ hp ▸ hs.count_le, (State.flowAt_congr hfl _).trans hs.flow⟩

/-- A flow stored in slot `flow_count`, below capacity, takes no tracked flow's slot. -/
theorem State.Tracks.insertFlow {h : Handle} {f : FlowRecord} (hs : s.Tracks h f)
    (hm : s.flowCount ≠ s.params.maxFlows) (g : FlowRecord) (b : Word) :
    (s.insertFlow s.flowCount g b).Tracks h f := by
  obtain ⟨ha, hv, hc, hk⟩ := hs
  refine ⟨ha, ?_, ?_, ?_⟩
  · rw [State.insertFlow_flowCount]
    bv_omega
  · rw [State.insertFlow_flowCount, State.insertFlow_params]
    bv_omega
  · rw [State.flowAt_insertFlow, if_neg (by bv_omega), hk]

/-- An update writes the tracked record exactly when it is of the tracked handle. -/
theorem State.Tracks.updateAtFront {h k : Handle} {f g : FlowRecord} (hs : s.Tracks h f) (b : Word) :
    ((s.moveToFront k b).setFlow k.toNat g).Tracks h (if k = h then g else f) := by
  refine ⟨hs.alive, hs.valid, hs.count_le, ?_⟩
  rw [State.flowAt_setFlow, State.flowAt_moveToFront]
  by_cases hk : k = h
  · simp [hk]
  · rw [if_neg hk, if_neg fun e => hk (BitVec.eq_of_toNat_eq e).symm, hs.flow]

/-- Command `i` with snapshot `l`, completing in `t`, is an UPDATE_FLOW of handle `h` with OK. -/
def UpdatesWithOk (h : Handle) (l : Snapshot) (t : State) (i : Instr) : Prop :=
  (∃ flags, i = .updateFlow flags) ∧ l.operands.handleIn = h ∧ t.result = .ok

/-- A completion that leaves the index alive leaves a tracked record as it is, unless it is an UPDATE_FLOW of its handle
with OK. -/
theorem Completed.tracks {l : Snapshot} {i : Instr} {h : Handle} {f : FlowRecord} (hc : Completed s l i t)
    (hs : s.Tracks h f) (ht : t.alive = true) :
    (¬UpdatesWithOk h l t i ∧ t.Tracks h f) ∨
      (UpdatesWithOk h l t i ∧ ∃ st, t.Tracks h (f.updated st l.operands)) := by
  cases hc with
  | refused | raised => exact .inl ⟨fun ⟨_, _, hr⟩ => (nomatch hr), hs.congr rfl⟩
  | createNoResource | lookupOk | lookupNotFound | createFlowNoResource =>
    exact .inl ⟨fun ⟨⟨_, hu⟩, _⟩ => (nomatch hu), hs.congr rfl⟩
  | createOk _ ha => simp [hs.alive] at ha
  | destroyOk => cases ht
  | createFlowOk _ _ b _ _ _ _ hm =>
    exact .inl ⟨fun ⟨⟨_, hu⟩, _⟩ => (nomatch hu), (hs.insertFlow hm _ b).congr rfl⟩
  | updateFlowOk flags g st _ _ _ hr =>
    have hts := hs.updateAtFront (k := l.operands.handleIn) (g := g.updated st l.operands) g.bucket
    by_cases hk : l.operands.handleIn = h
    · obtain rfl : g = f := Option.some.inj (hr.symm.trans (hk ▸ hs.flow))
      rw [if_pos hk] at hts
      exact .inr ⟨⟨⟨flags, rfl⟩, hk, rfl⟩, st, hts.congr rfl⟩
    · rw [if_neg hk] at hts
      exact .inl ⟨fun ⟨_, hk', _⟩ => hk hk', hts.congr rfl⟩

/-- The next step completes a snapshot exactly when the engine is busy with it and its turn is next. -/
theorem State.completing_eq_some_iff {l : Snapshot} :
    s.completing = some l ↔ s.latched = some l ∧ s.busy = true ∧ ∃ ts, s.EngineNext ts := by
  have hturn : (s.turns.head? = none ∨ s.turns.head? = some .engine) ↔ ∃ ts, s.EngineNext ts := by
    cases hts : s.turns <;> simp [State.EngineNext, hts]
  rw [State.completing, Option.ite_none_right_eq_some, hturn, and_comm]

/-- What `okUpdate` reports: the step completes a word that is an UPDATE_FLOW of the handle, with OK. -/
theorem okUpdate_eq_some_iff {h : Handle} {o : Operands} :
    okUpdate h s t = some o ↔
      ∃ l i, s.completing = some l ∧ decode l.cw = .command i ∧ UpdatesWithOk h l t i ∧ l.operands = o := by
  cases hc : s.completing with
  | none => simp [okUpdate, hc]
  | some l =>
    cases hd : decode l.cw with
    | illegal => simp [okUpdate, hc, hd]
    | command i => cases i <;> simp [okUpdate, hc, hd, UpdatesWithOk]

/-- No update is reported of a step that ends without OK or is not the busy engine's. -/
theorem okUpdate_eq_none {h : Handle}
    (hn : ¬(t.result = .ok ∧ s.busy = true ∧ ∃ ts, s.EngineNext ts)) : okUpdate h s t = none := by
  refine Option.eq_none_iff_forall_ne_some.mpr fun o ho => hn ?_
  obtain ⟨l, i, hc, -, ⟨-, -, hr⟩, -⟩ := okUpdate_eq_some_iff.mp ho
  obtain ⟨-, hb, ht⟩ := State.completing_eq_some_iff.mp hc
  exact ⟨hr, hb, ht⟩

/-- A step that leaves the index alive leaves a tracked record as it is, unless it is reported as an update. -/
theorem Stepped.tracks {h : Handle} {f : FlowRecord} (hst : Stepped s t) (hs : s.Tracks h f) (ht : t.alive = true) :
    (okUpdate h s t = none ∧ t.Tracks h f) ∨
      ∃ o st, okUpdate h s t = some o ∧ t.Tracks h (f.updated st o) := by
  cases hst with
  | command i l ts _ hts hb hl hd hc =>
    have hcomp : s.completing = some l := State.completing_eq_some_iff.mpr ⟨hl, hb, ts, hts⟩
    obtain ⟨hnot, htr⟩ | ⟨hu, st, htr⟩ := hc.tracks (hs.congr rfl) ht
    · refine .inl ⟨Option.eq_none_iff_forall_ne_some.mpr fun o ho => hnot ?_, htr⟩
      obtain ⟨l', i', hc', hd', hu, -⟩ := okUpdate_eq_some_iff.mp ho
      obtain rfl : l' = l := Option.some.inj (hc'.symm.trans hcomp)
      obtain rfl : i' = i := Decoded.command.inj (hd'.symm.trans hd)
      exact hu
    · exact .inr ⟨l.operands, st, okUpdate_eq_some_iff.mpr ⟨l, i, hcomp, hd, hu, rfl⟩, htr⟩
  | illegal | illegalRefused => exact .inl ⟨okUpdate_eq_none fun ⟨hr, _⟩ => (nomatch hr), hs.congr rfl⟩
  | idle _ _ hb => exact .inl ⟨okUpdate_eq_none fun ⟨_, hb', _⟩ => by simp [hb] at hb', hs.congr rfl⟩
  | host ts _ hts hm =>
    refine .inl ⟨okUpdate_eq_none fun ⟨_, hb, ts', he⟩ => ?_, hs.congr hm.indexPart_resultPart_eq.1⟩
    obtain ⟨hts, -, hb'⟩ | hts := hts
    · simp [hb] at hb'
    · simp [State.EngineNext, hts] at he
  | reset => cases ht

/-! ### A run -/

/-- Record `g` is record `f` after updates by packets with operands `os`, as far as the counters show. -/
def FlowRecord.CountsFrom (g f : FlowRecord) (os : List Operands) : Prop :=
  g.packetCount = f.packetCount + BitVec.ofNat 64 os.length ∧
    g.byteCount = f.byteCount + BitVec.ofNat 64 (os.map fun o => o.wireLen.toNat).sum

theorem FlowRecord.CountsFrom.refl (f : FlowRecord) : f.CountsFrom f [] := by
  simp [FlowRecord.CountsFrom]

/-- One more update before the others. -/
theorem FlowRecord.CountsFrom.cons {g f : FlowRecord} {os : List Operands} {o : Operands} {st : TcpState}
    (hg : g.CountsFrom (f.updated st o) os) : g.CountsFrom f (o :: os) := by
  obtain ⟨hp, hb⟩ := hg
  constructor
  · rw [hp, FlowRecord.updated, List.length_cons, Nat.add_comm, BitVec.ofNat_add, BitVec.add_assoc]
    rfl
  · rw [hb, FlowRecord.updated, Operands.length, List.map_cons, List.sum_cons, BitVec.ofNat_add, BitVec.ofNat_toNat,
      BitVec.add_assoc]

/-- A run of `n + 1` steps is a step that leaves the index alive and a run of `n`. -/
theorem runLifetime_succ {h : Handle} {n : Nat} {u : State} {os : List Operands}
    (hr : runLifetime h (n + 1) s = some (u, os)) :
    ∃ t os', step s = .next t ∧ t.alive = true ∧ runLifetime h n t = some (u, os') ∧
      os = (okUpdate h s t).toList ++ os' := by
  unfold runLifetime at hr
  split at hr
  · next t hst =>
    split at hr
    · next ha =>
      split at hr
      · next u' os' hrest =>
        cases hr
        exact ⟨t, os', hst, ha, hrest, rfl⟩
      · cases hr
    · cases hr
  · cases hr
  · cases hr

/-- A run keeps track of the record, and its counters grow by the updates the run reports. -/
theorem State.Tracks.runLifetime {h : Handle} {n : Nat} {f : FlowRecord} {os : List Operands} (hs : s.Tracks h f)
    (hr : runLifetime h n s = some (t, os)) : ∃ g, t.Tracks h g ∧ g.CountsFrom f os := by
  induction n generalizing s f os with
  | zero =>
    cases hr
    exact ⟨f, hs, .refl f⟩
  | succ n ih =>
    obtain ⟨s', os', hst, ha, hrest, rfl⟩ := runLifetime_succ hr
    obtain ⟨hnone, hs'⟩ | ⟨o, st, hsome, hs'⟩ := (step_stepped hst).tracks hs ha
    · rw [hnone]
      exact ih hs' hrest
    · obtain ⟨g, hg, hcount⟩ := ih hs' hrest
      rw [hsome]
      exact ⟨g, hg, hcount.cons⟩

/-- A CREATE_FLOW with OK leaves the new record tracked under the handle it answers. -/
theorem Completed.tracks_created {l : Snapshot} {l3 : L3Tag} {flags : Flags}
    (hc : Completed s l (.createFlow l3 flags) t) (hle : s.flowCount ≤ s.params.maxFlows) (hok : t.result = .ok) :
    ∃ b, t.Tracks t.resultHandle (newRecord (l.operands.tuple l3) flags l.operands b) := by
  cases hc with
  | refused | raised | createFlowNoResource => cases hok
  | createFlowOk _ _ b _ ha _ _ hm =>
    have hlt : s.flowCount < s.flowCount + 1 := by bv_omega
    have hle' : s.flowCount + 1 ≤ s.params.maxFlows := by bv_omega
    refine ⟨b, ha, hlt, hle', ?_⟩
    rw [State.flowAt_finish, State.flowAt_setResults, State.flowAt_insertFlow]
    exact if_pos rfl

/-- Settles O33: the created record is tracked through the run, and its counters start from the creating packet. -/
theorem countersCountEveryPacketOfTheFlow : Obligations.CountersCountEveryPacketOfTheFlow := by
  intro s s₁ t l l3 flags n os hle hl h hok hr
  obtain ⟨b, hs₁⟩ := (exec_completed_of_latched hl h).tracks_created hle hok
  obtain ⟨g, hg, hp, hb⟩ := hs₁.runLifetime hr
  refine ⟨g, hg.flow, ?_, ?_⟩
  · rw [hp, Nat.add_comm, BitVec.ofNat_add]
    rfl
  · rw [hb, BitVec.ofNat_add, BitVec.ofNat_toNat]
    rfl

end Sys2Proof.Machine

/-!
The Hasher (spec 41_hasher.md R151 to R159): the value of an address, the six bytes of a side, and the bucket index as a
remainder by the bucket count.
-/

namespace Sys2Proof.Machine

/-- An IPv4 address is its own value (spec 41_hasher.md R151). -/
@[simp] theorem addrValue_v4 (w : Word) : addrValue (.v4 w) = w := rfl

/-- An IPv6 address has the sum of its words for its value (spec 41_hasher.md R151). -/
@[simp] theorem addrValue_v6 (w0 w1 w2 w3 : Word) : addrValue (.v6 w0 w1 w2 w3) = w0 + w1 + w2 + w3 := rfl

/-- The six bytes go in from 0, the address before the port, the most significant first (spec 41_hasher.md R152,
R154). -/
theorem sideHash_eq (p : Params) (v : Word) (q : Port) :
    sideHash p v q =
      mix p (mix p (mix p (mix p (mix p (mix p 0 (v.extractLsb' 24 8)) (v.extractLsb' 16 8)) (v.extractLsb' 8 8))
        (v.extractLsb' 0 8)) (q.extractLsb' 8 8)) (q.extractLsb' 0 8) := rfl

/-- The index is the remainder of the mixed sum, as numbers (spec 41_hasher.md R157). -/
theorem toNat_bucketOf (p : Params) (t : FiveTuple) (n : Word) :
    (bucketOf p t n).toNat = (applyFinalMix p.finalMix (hashSum p t)).toNat % n.toNat :=
  BitVec.toNat_umod

/-- The index lies below the bucket count (spec 41_hasher.md R157). -/
theorem bucketOf_lt (p : Params) (t : FiveTuple) {n : Word} (hn : n ≠ 0) : bucketOf p t n < n :=
  BitVec.umod_lt _ (by bv_omega)

/-- Settles O34: the sum of the side hashes in the spec's own steps, its remainder, and the symmetry of the sum. -/
theorem bucketIndexIsSymmetricAndInRange : Obligations.BucketIndexIsSymmetricAndInRange := by
  refine ⟨?_, fun h => ⟨fun k => rfl, rfl⟩⟩
  intro p l3 a c x y n value mixIn side
  have hvalue (b : Addr) : value b = addrValue b := by
    cases b with
    | v4 w => exact (addrValue_v4 w).symm
    | v6 w0 w1 w2 w3 => exact (addrValue_v6 w0 w1 w2 w3).symm
  have hside (v : Word) (q : Port) : side v q = sideHash p v q := (sideHash_eq p v q).symm
  refine ⟨fun hn => ⟨?_, bucketOf_lt p _ hn⟩, (bucketOf_reverse p ⟨l3, a, c, x, y⟩ n).symm⟩
  rw [hvalue, hvalue, hside, hside]
  exact toNat_bucketOf p ⟨l3, a, c, x, y⟩ n

/-- Settles O35: the side hash sees the word sum alone, and address equality is equality. -/
theorem sameWordSumHashesAlikeButDoesNotMatch : Obligations.SameWordSumHashesAlikeButDoesNotMatch := by
  intro p a0 a1 a2 a3 b0 b1 b2 b3 port
  constructor
  · intro hsum
    rw [addrValue_v6, addrValue_v6, hsum]
  · rw [addrEq_iff, Addr.v6.injEq]

end Sys2Proof.Machine

/-!
The Matcher (spec 42_matcher.md R174, R175): `flowMatches_iff` with the record's tuple and its reverse written out.
-/

namespace Sys2Proof.Machine

/-- Settles O36: the record's own tuple and its reverse, field by field. -/
theorem aFlowMatchesExactlyItsTupleAndTheReverse : Obligations.AFlowMatchesExactlyItsTupleAndTheReverse := by
  intro f t
  have htuple : f.tuple = ⟨f.l3, f.src, f.dst, f.sport, f.dport⟩ := rfl
  have hreverse : f.tuple.reverse = ⟨f.l3, f.dst, f.src, f.dport, f.sport⟩ := rfl
  rw [flowMatches_iff, hreverse, htuple]

end Sys2Proof.Machine

/-!
The TCP State Machine (spec 43_tcp_state_machine.md R186 to R196): the rows of the transition table, the successors of
each state, UPDATE_FLOW on a flow in CLOSE, and the order along which the state of a stored flow moves.
-/

namespace Sys2Proof.Machine

variable {s t : State}

/-! ### The transition table -/

/-- SYN with ACK comes before the other flags (spec R189). -/
theorem nextState_syn (f : Flags) : nextState .syn f =
    if f.syn = true ∧ f.ack = true then some .synAck
    else if f.fin = true then some .fin else if f.rst = true then some .rst else some .established := by
  simp only [nextState, Bool.and_eq_true]

/-- SYN_ACK and ESTABLISHED have the same row (spec R190, R191). -/
theorem nextState_synAck_or_established {a : TcpState} (ha : a = .synAck ∨ a = .established) (f : Flags) :
    nextState a f = if f.fin = true then some .fin else if f.rst = true then some .rst else some .established := by
  obtain rfl | rfl := ha <;> rfl

theorem nextState_fin (f : Flags) : nextState .fin f = if f.rst = true then some .rst else some .fin := rfl

theorem nextState_rst (f : Flags) : nextState .rst f = some .rst := rfl

/-- The permitted successors of a state (spec R186). -/
def TcpState.successors : TcpState → List TcpState
  | .syn => [.synAck, .established, .fin, .rst]
  | .synAck => [.established, .fin, .rst]
  | .established => [.established, .fin, .rst]
  | .fin => [.fin, .rst]
  | .rst => [.rst]
  | .close => []

/-- Flags that lead to a state from every state it is a permitted successor of. -/
def TcpState.flagsTo : TcpState → Flags
  | .synAck => ⟨true, true, false, false⟩
  | .fin => ⟨false, false, true, false⟩
  | .rst => ⟨false, false, false, true⟩
  | .syn | .established | .close => ⟨false, false, false, false⟩

theorem TcpState.mem_successors_of_nextState {a b : TcpState} {flags : Flags} (h : nextState a flags = some b) :
    b ∈ a.successors := by
  cases a with
  | syn =>
    rw [nextState_syn] at h
    split_ifs at h <;> cases h <;> decide
  | synAck | established =>
    rw [nextState_synAck_or_established (by decide)] at h
    split_ifs at h <;> cases h <;> decide
  | fin =>
    rw [nextState_fin] at h
    split_ifs at h <;> cases h <;> decide
  | rst =>
    cases h
    decide
  | close => cases h

theorem TcpState.nextState_flagsTo (a : TcpState) : ∀ b ∈ a.successors, nextState a b.flagsTo = some b := by
  cases a <;> decide

/-- The successor sets are the ranges of the transition function (spec R186). -/
theorem TcpState.exists_nextState_iff {a b : TcpState} :
    (∃ flags, nextState a flags = some b) ↔ b ∈ a.successors :=
  ⟨fun ⟨_, h⟩ => mem_successors_of_nextState h, fun h => ⟨_, nextState_flagsTo a b h⟩⟩

/-- Settles O37: the rows by their equations, the successor sets as lists. -/
theorem permittedSuccessorsAreExact : Obligations.PermittedSuccessorsAreExact := by
  refine ⟨fun f => ⟨fun h => ?_, fun h hf => ?_, fun h hf hr => ?_, fun h hf hr => ?_, fun a ha => ?_, fun hr => ?_,
    fun hr => ?_, nextState_rst f, nextState_eq_none.mpr rfl⟩, fun a b => ?_⟩
  · rw [nextState_syn, if_pos h]
  · rw [nextState_syn, if_neg h, if_pos hf]
  · simp [nextState_syn, h, hf, hr]
  · simp [nextState_syn, h, hf, hr]
  · rw [nextState_synAck_or_established ha]
    exact ⟨fun hf => by simp [hf], fun hf hr => by simp [hf, hr], fun hf hr => by simp [hf, hr]⟩
  · rw [nextState_fin, if_pos hr]
  · simp [nextState_fin, hr]
  · rw [TcpState.exists_nextState_iff]
    cases a <;> simp [TcpState.successors]

/-! ### UPDATE_FLOW on a flow in CLOSE -/

theorem exec_updateFlow_updateInClose {l : Snapshot} {flags : Flags} {f : FlowRecord} (hl : s.latched = some l)
    (hf : s.fault = .noFault) (ha : s.alive = true) (hh : l.operands.handleIn < s.flowCount)
    (hr : s.flowAt l.operands.handleIn.toNat = some f) (hc : f.state = .close) :
    exec (.updateFlow flags) s = .next (s.raise .updateInClose) := by
  simp [exec, execUpdateFlow, State.command_eq_rule hl hf, ha, BitVec.not_le.mpr hh, hr, nextState_eq_none.mpr hc]

/-- Settles O30: the last check of UPDATE_FLOW; neither a transition nor a creation gives CLOSE. -/
theorem updateInCloseFaults : Obligations.UpdateInCloseFaults := by
  refine ⟨fun s l flags f hl hf ha hh hr hc => ?_, nextState_ne_close, initialState_ne_close⟩
  rw [exec_updateFlow_updateInClose hl hf ha hh hr hc, State.raise_of_healthy hf]

/-! ### The state of a stored flow along a step -/

/-- No permitted successor goes back in the order SYN < SYN_ACK < ESTABLISHED < FIN < RST (spec R196). -/
theorem TcpState.rank_le_of_mem_successors (a : TcpState) : ∀ b ∈ a.successors, a.rank ≤ b.rank := by
  cases a <;> decide

/-- State `b` is state `a`, or a transition takes `a` to it. -/
def TcpState.Advances (a b : TcpState) : Prop := b = a ∨ ∃ flags, nextState a flags = some b

theorem TcpState.Advances.rank_le {a b : TcpState} (h : a.Advances b) : a.rank ≤ b.rank := by
  obtain rfl | ⟨_, h⟩ := h
  · exact le_rfl
  · exact rank_le_of_mem_successors a b (mem_successors_of_nextState h)

/-- A flow in slot `k` of `t` is in the state of `f` or in one a transition takes it to. -/
def State.AdvancesFlow (t : State) (k : Nat) (f : FlowRecord) : Prop :=
  ∀ g, t.flowAt k = some g → f.state.Advances g.state

theorem State.AdvancesFlow.of_flowAt {k : Nat} {f : FlowRecord} (h : t.flowAt k = some f) : t.AdvancesFlow k f :=
  fun _ hg => .inl (congrArg FlowRecord.state (Option.some.inj (hg.symm.trans h)))

theorem State.AdvancesFlow.of_none {k : Nat} {f : FlowRecord} (h : t.flowAt k = none) : t.AdvancesFlow k f :=
  fun _ hg => nomatch h.symm.trans hg

/-- A completion changes a stored flow's state by UPDATE_FLOW's transition alone. -/
theorem Completed.advancesFlow {l : Snapshot} {i : Instr} {k : Nat} {f : FlowRecord} (h : Completed s l i t)
    (hi : s.IndexInv) (hk : s.flowAt k = some f) : t.AdvancesFlow k f := by
  cases h with
  | refused | raised | createNoResource | lookupOk | lookupNotFound | createFlowNoResource => exact .of_flowAt hk
  | createOk | destroyOk => exact .of_none rfl
  | createFlowOk =>
    have hne : k ≠ s.flowCount.toNat := fun e => by rw [e, hi.flowAt_flowCount] at hk; cases hk
    refine .of_flowAt ?_
    rw [State.flowAt_finish, State.flowAt_setResults, State.flowAt_insertFlow, if_neg hne, hk]
  | updateFlowOk flags f' st _ _ _ hr hn =>
    intro g hg
    rw [State.flowAt_finish, State.flowAt_setFlow] at hg
    split at hg
    · next e =>
      obtain rfl : f' = f := Option.some.inj (hr.symm.trans (e ▸ hk))
      cases hg
      exact .inr ⟨flags, hn⟩
    · exact State.AdvancesFlow.of_flowAt hk g hg

/-- A step changes a stored flow's state by a transition alone. -/
theorem Stepped.advancesFlow {k : Nat} {f : FlowRecord} (h : Stepped s t) (hi : s.Inv) (hk : s.flowAt k = some f) :
    t.AdvancesFlow k f := by
  cases h with
  | command _ _ _ _ _ _ _ _ hc => exact hc.advancesFlow (hi.index.congr rfl) hk
  | illegal | illegalRefused | idle => exact .of_flowAt hk
  | host _ _ _ hm => exact .of_flowAt ((State.flowAt_congr hm.flows_eq k).trans hk)
  | reset => exact .of_none rfl

/-- Settles O56: the order along a step, and the invariant after it. -/
theorem aFlowsStateNeverGoesBack : Obligations.AFlowsStateNeverGoesBack := by
  intro s t h f g hi hst hf hg
  have hstep := step_stepped hst
  exact ⟨(hstep.advancesFlow hi hf g hg).rank_le, ((hstep.inv hi).index.records h g hg).not_close⟩

end Sys2Proof.Machine

/-!
Results, faults and refusals (spec 60_exceptions.md). A completion step, of a legal or an illegal word, has one of three
outcomes (R211); a faulted engine refuses and keeps its state until a reset event (R213, R214, R222); and a command
reports the first check of R220 that applies, so with no violated check it does not fault (R219).
-/

namespace Sys2Proof.Machine

variable {s t : State}

/-! ### The faulted engine -/

/-- Every command's meaning starts with the refusal of a faulted engine (spec R220, line "any"). -/
theorem exec_of_faulted {l : Snapshot} (hl : s.latched = some l) (hf : s.fault ≠ .noFault) (i : Instr) :
    exec i s = .next s.refuse := by
  cases i <;> exact State.command_eq_refuse hl hf

/-- A faulted engine's completion step is a refusal, whatever the word. -/
theorem step_of_faulted {l : Snapshot} {ts : List Turn} (hb : s.busy = true) (hl : s.latched = some l)
    (ht : s.EngineNext ts) (hf : s.fault ≠ .noFault) : step s = .next (s.setTurns ts).refuse := by
  obtain ⟨i, hd⟩ | ⟨why, hd⟩ := decode_command_or_illegal l.cw
  · rw [step_of_command hb hl ht hd]
    exact exec_of_faulted (s := s.setTurns ts) hl hf i
  · rw [step_of_illegal hb hl ht hd]
    exact State.command_eq_refuse (s := s.setTurns ts) hl hf

/-- Settles O11: the refusal of a command and of the completion step. -/
theorem faultedEngineRefusesEveryCommand : Obligations.FaultedEngineRefusesEveryCommand :=
  fun _ _ hl hf => ⟨exec_of_faulted hl hf, fun _ hb ht => step_of_faulted hb hl ht hf⟩

/-! ### The three outcomes of a completion -/

/-- The outcomes of a completion that takes `s` to a next state (spec R211): what `Completed` says of each command, with
the commands that share an outcome taken together, and of an illegal word too. -/
inductive State.CompletesTo (s : State) : State → Prop
  /-- A result on a healthy engine, which stays healthy. -/
  | result (t : State) (hf : s.fault = .noFault) (hft : t.fault = .noFault)
      (hr : t.result = .ok ∨ t.result = .notFound ∨ t.result = .noResource) (hb : t.busy = false)
      (hl : t.latched = none) (hts : t.turns = s.turns) : s.CompletesTo t
  /-- A fault, with no effect but the latch (R214). -/
  | raised (c : FaultCode) (hf : s.fault = .noFault) (hc : c ≠ .noFault) : s.CompletesTo (s.raise c)
  /-- A refusal, with no effect (R213). -/
  | refused (hf : s.fault ≠ .noFault) : s.CompletesTo s.refuse

theorem Completed.completesTo {l : Snapshot} {i : Instr} (h : Completed s l i t) : s.CompletesTo t := by
  cases h with
  | refused _ hf => exact .refused hf
  | raised _ c hf hc => exact .raised c hf hc
  | createOk hf | destroyOk hf | lookupOk _ _ _ hf | createFlowOk _ _ _ hf | updateFlowOk _ _ _ hf =>
    exact .result _ hf hf (.inl rfl) rfl rfl rfl
  | lookupNotFound _ _ hf => exact .result _ hf hf (.inr (.inl rfl)) rfl rfl rfl
  | createNoResource hf | createFlowNoResource _ _ _ hf => exact .result _ hf hf (.inr (.inr rfl)) rfl rfl rfl

theorem State.completeIllegal_completesTo (h : s.completeIllegal = .next t) : s.CompletesTo t := by
  obtain ⟨l, -, ⟨hf, rfl⟩ | ⟨hf, h⟩⟩ := State.command_next h
  · exact .refused hf
  · cases h
    exact .raised _ hf (by decide)

/-- A busy engine completes nothing without a snapshot. -/
theorem exists_latched_of_step {ts : List Turn} (hb : s.busy = true) (ht : s.EngineNext ts) (h : step s = .next t) :
    ∃ l, s.latched = some l := by
  cases hl : s.latched with
  | none => simp [step_engine hb ht, engineRun, engineMove, hl] at h
  | some l => exact ⟨l, rfl⟩

/-- The completion step of any word has one of the three outcomes. -/
theorem step_completesTo {ts : List Turn} (hb : s.busy = true) (ht : s.EngineNext ts) (h : step s = .next t) :
    (s.setTurns ts).CompletesTo t := by
  obtain ⟨l, hl⟩ := exists_latched_of_step hb ht h
  obtain ⟨i, hd⟩ | ⟨why, hd⟩ := decode_command_or_illegal l.cw
  · rw [step_of_command hb hl ht hd] at h
    exact (exec_completed_of_latched (s := s.setTurns ts) hl h).completesTo
  · rw [step_of_illegal hb hl ht hd] at h
    exact State.completeIllegal_completesTo h

/-- Settles O12: the three outcomes, the fault and the refusal as what they leave of the state. -/
theorem everyCompletionIsResultFaultOrRefusal : Obligations.EveryCompletionIsResultFaultOrRefusal := by
  intro s t ts hb ht h
  cases step_completesTo hb ht h with
  | result _ hf hft hr hbt hlt hts => exact ⟨hbt, hlt, hts, .inl ⟨hf, hft, hr⟩⟩
  | raised c hf hc =>
    rw [State.raise_of_healthy (s := s.setTurns ts) hf]
    exact ⟨rfl, rfl, rfl, .inr (.inl ⟨hf, hc, rfl⟩)⟩
  | refused hf => exact ⟨rfl, rfl, rfl, .inr (.inr ⟨hf, rfl⟩)⟩

/-! ### A fault stays until a reset event -/

/-- First fault wins: a write, a collision's included, leaves a latched fault (spec R214, 70_reset_and_hazards.md
R245). -/
theorem State.writeWord_fault_of_faulted (hf : s.fault ≠ .noFault) (offset : Nat) (v : Word) :
    (s.writeWord offset v).fault = s.fault := by
  obtain h | ⟨r, -, -, h⟩ | ⟨-, -, h⟩ | ⟨-, -, h⟩ := s.writeWord_cases offset v <;> simp [h, hf]

theorem HostMoved.fault_of_faulted (h : HostMoved s t) (hf : s.fault ≠ .noFault) : t.fault = s.fault := by
  cases h with
  | idle | read => rfl
  | write offset v rest _ => exact State.writeWord_fault_of_faulted (s := s.setProgram rest) hf offset v

/-- A completion of a faulted engine is the refusal. -/
theorem State.CompletesTo.eq_refuse (h : s.CompletesTo t) (hf : s.fault ≠ .noFault) : t = s.refuse := by
  cases h with
  | refused => rfl
  | result _ hn | raised _ hn => exact absurd hn hf

/-- Any step of a faulted engine that is no reset event keeps the fault, the index and the result registers. -/
theorem Stepped.keeps_of_faulted (h : Stepped s t) (hf : s.fault ≠ .noFault) (hr : s.turns.head? ≠ some .reset) :
    t.fault = s.fault ∧ t.indexPart = s.indexPart ∧
      t.resultHandle = s.resultHandle ∧ t.resultBucket = s.resultBucket := by
  cases h with
  | command i l ts _ _ _ _ _ hc =>
    obtain rfl := hc.completesTo.eq_refuse hf
    exact ⟨rfl, rfl, rfl, rfl⟩
  | illegal _ _ _ _ _ hn => exact absurd hn hf
  | illegalRefused | idle => exact ⟨rfl, rfl, rfl, rfl⟩
  | host ts _ _ hm =>
    obtain ⟨hi, hres⟩ := hm.indexPart_resultPart_eq
    obtain ⟨-, hrh, hrb⟩ := State.resultPart_eq_iff.mp hres
    exact ⟨hm.fault_of_faulted hf, hi, hrh, hrb⟩
  | reset ts ht => simp [ht] at hr

/-- Settles O54: every case of what a step can do but the reset event. -/
theorem aFaultIsClearedOnlyByReset : Obligations.AFaultIsClearedOnlyByReset := by
  intro s t h hf hr
  obtain ⟨hfault, hi, hres⟩ := (step_stepped h).keeps_of_faulted hf hr
  obtain ⟨-, ha, hb, hn, hfl, hch⟩ := State.indexPart_eq_iff.mp hi
  exact ⟨hfault, ha, hb, hn, hfl, hch, hres⟩

/-! ### The order of the checks -/

/-- What the state after a completion reports, given the first check that applies (spec R220): its result and fault
code, or OK or NOT_FOUND and no fault when none applies. -/
def State.Reports (t : State) : Option (ResultCode × FaultCode) → Prop
  | some (r, f) => t.result = r ∧ t.fault = f
  | none => (t.result = .ok ∨ t.result = .notFound) ∧ t.fault = .noFault

theorem State.reports_raise (hf : s.fault = .noFault) (c : FaultCode) : (s.raise c).Reports (some (.fault, c)) :=
  ⟨rfl, by simp [hf]⟩

/-- A transition leaves every state but CLOSE. -/
theorem exists_nextState {a : TcpState} (h : a ≠ .close) (flags : Flags) : ∃ b, nextState a flags = some b :=
  Option.ne_none_iff_exists'.mp (mt nextState_eq_none.mp h)

/-- The turns to come play no part in the checks. -/
theorem checkOrder_setTurns (i : Instr) (s : State) (ts : List Turn) (o : Operands) :
    checkOrder i (s.setTurns ts) o = checkOrder i s o := by
  cases i <;> rfl

section Checks

variable {l : Snapshot} (hl : s.latched = some l) (hf : s.fault = .noFault)
include hl hf

theorem exec_create_reports : ∃ t, exec .create s = .next t ∧ t.Reports (checkOrder .create s l.operands) := by
  rw [checkOrder]
  split_ifs with ha hn hm
  · exact ⟨_, exec_create_indexExists hl hf ha, State.reports_raise hf _⟩
  · exact ⟨_, exec_create_badBucketCount hl hf (by simpa using ha) hn, State.reports_raise hf _⟩
  · exact ⟨_, exec_create_noResource hl hf (by simpa using ha) hm, rfl, hf⟩
  · exact ⟨_, exec_create_ok hl hf (by simpa using ha) hn (BitVec.not_lt.mp hm), .inl rfl, hf⟩

theorem exec_destroy_reports : ∃ t, exec .destroy s = .next t ∧ t.Reports (checkOrder .destroy s l.operands) := by
  rw [checkOrder]
  split_ifs with ha
  · exact ⟨_, exec_destroy_noIndex hl hf ha, State.reports_raise hf _⟩
  · exact ⟨_, exec_destroy_ok hl hf (by simpa using ha), .inl rfl, hf⟩

/-- LOOKUP of a supported family in a live index is answered by its search. -/
theorem exec_lookup_answers {l3 : L3Tag} (ha : s.alive = true) (hs : l3.supported = true) :
    ∃ t, exec (.lookup l3) s = .next t ∧ t.Reports none := by
  let x := l.operands.tuple l3
  cases hh : (s.chainAt (bucketOf s.params x s.bucketCount).toNat).find? (s.slotMatches x) with
  | some h => exact ⟨_, exec_lookup_ok hl hf ha hs rfl hh, .inl rfl, hf⟩
  | none => exact ⟨_, exec_lookup_notFound hl hf ha hs rfl hh, .inr rfl, hf⟩

theorem exec_lookup_reports (l3 : L3Tag) :
    ∃ t, exec (.lookup l3) s = .next t ∧ t.Reports (checkOrder (.lookup l3) s l.operands) := by
  simp only [checkOrder, ← L3Tag.supported_eq_false]
  split_ifs with ha hs
  · exact ⟨_, exec_lookup_noIndex hl hf ha, State.reports_raise hf _⟩
  · exact ⟨_, exec_lookup_unsupportedL3 hl hf (by simpa using ha) hs, State.reports_raise hf _⟩
  · exact exec_lookup_answers hl hf (by simpa using ha) (by simpa using hs)

theorem exec_createFlow_reports (l3 : L3Tag) (flags : Flags) :
    ∃ t, exec (.createFlow l3 flags) s = .next t ∧ t.Reports (checkOrder (.createFlow l3 flags) s l.operands) := by
  simp only [checkOrder, ← L3Tag.supported_eq_false]
  split_ifs with ha hs hy hm
  · exact ⟨_, exec_createFlow_noIndex hl hf ha, State.reports_raise hf _⟩
  · exact ⟨_, exec_createFlow_unsupportedL3 hl hf (by simpa using ha) hs, State.reports_raise hf _⟩
  · exact ⟨_, exec_createFlow_createNotSyn hl hf (by simpa using ha) (by simpa using hs) hy, State.reports_raise hf _⟩
  · exact ⟨_, exec_createFlow_noResource hl hf (by simpa using ha) (by simpa using hs) (by simpa using hy) hm rfl,
      rfl, hf⟩
  · exact ⟨_, exec_createFlow_ok hl hf (by simpa using ha) (by simpa using hs) (by simpa using hy) hm rfl,
      .inl rfl, hf⟩

/-- UPDATE_FLOW of a stored flow that is not in CLOSE makes its transition. -/
theorem exec_updateFlow_answers {f : FlowRecord} (flags : Flags) (ha : s.alive = true)
    (hh : l.operands.handleIn < s.flowCount) (hr : s.flowAt l.operands.handleIn.toNat = some f)
    (hc : f.state ≠ .close) : ∃ t, exec (.updateFlow flags) s = .next t ∧ t.fault = .noFault ∧ t.result = .ok := by
  obtain ⟨st, hn⟩ := exists_nextState hc flags
  exact ⟨_, exec_updateFlow_ok hl hf ha hh hr hn, hf, rfl⟩

theorem exec_updateFlow_reports (flags : Flags) (hslots : ∀ h, h < s.flowCount.toNat → (s.flowAt h).isSome = true) :
    ∃ t, exec (.updateFlow flags) s = .next t ∧ t.Reports (checkOrder (.updateFlow flags) s l.operands) := by
  rw [checkOrder]
  split_ifs with ha hh hc
  · exact ⟨_, exec_updateFlow_noIndex hl hf ha, State.reports_raise hf _⟩
  · exact ⟨_, exec_updateFlow_invalidHandle hl hf (by simpa using ha) hh, State.reports_raise hf _⟩
  · obtain ⟨f, hr, hc⟩ := (Option.any_eq_true ..).mp hc
    exact ⟨_, exec_updateFlow_updateInClose hl hf (by simpa using ha) (BitVec.not_le.mp hh) hr (by simpa using hc),
      State.reports_raise hf _⟩
  · obtain ⟨f, hr⟩ := Option.isSome_iff_exists.mp (hslots _ (BitVec.not_le.mp hh))
    obtain ⟨t, h, hft, hres⟩ := exec_updateFlow_answers hl hf flags (by simpa using ha) (BitVec.not_le.mp hh) hr
      (by simpa [hr] using hc)
    exact ⟨t, h, .inl hres, hft⟩

/-- A command reports the first check of its row that applies. -/
theorem exec_reports (hslots : ∀ h, h < s.flowCount.toNat → (s.flowAt h).isSome = true) (i : Instr) :
    ∃ t, exec i s = .next t ∧ t.Reports (checkOrder i s l.operands) := by
  cases i with
  | create => exact exec_create_reports hl hf
  | destroy => exact exec_destroy_reports hl hf
  | lookup l3 => exact exec_lookup_reports hl hf l3
  | createFlow l3 flags => exact exec_createFlow_reports hl hf l3 flags
  | updateFlow flags => exact exec_updateFlow_reports hl hf flags hslots

end Checks

/-- Settles O13: a faulted engine refuses, an illegal word faults, and a command reports its first check. -/
theorem checksHappenInTheSpecsOrder : Obligations.ChecksHappenInTheSpecsOrder := by
  intro s l ts hb hl ht hslots
  by_cases hf : s.fault = .noFault
  · obtain ⟨i, hd⟩ | ⟨why, hd⟩ := decode_command_or_illegal l.cw
    · obtain ⟨t, h, hrep⟩ := exec_reports (s := s.setTurns ts) hl hf hslots i
      rw [checkOrder_setTurns] at hrep
      refine ⟨t, (step_of_command hb hl ht hd).trans h, fun hn => absurd hf hn, fun _ => ?_⟩
      rw [hd]
      exact hrep
    · refine ⟨_, (step_of_illegal hb hl ht hd).trans (State.command_eq_rule (s := s.setTurns ts) hl hf),
        fun hn => absurd hf hn, fun _ => ?_⟩
      rw [hd]
      exact State.reports_raise (s := s.setTurns ts) hf _
  · exact ⟨_, step_of_faulted hb hl ht hf, fun _ => ⟨rfl, rfl⟩, fun hn => absurd hn hf⟩

/-- Settles O14: LOOKUP's search answers, UPDATE_FLOW's transition exists, and DESTROY has no further check. -/
theorem nothingElseCanFail : Obligations.NothingElseCanFail := by
  refine fun s l hl hf ha => ⟨fun l3 hs => ?_, fun flags f hh hr hc => ?_, ?_⟩
  · obtain ⟨t, h, hres, hft⟩ := exec_lookup_answers hl hf ha (L3Tag.supported_eq_true.mpr hs)
    exact ⟨t, h, hft, hres⟩
  · exact exec_updateFlow_answers hl hf flags ha hh hr hc
  · exact ⟨_, exec_destroy_ok hl hf ha, hf, rfl⟩

end Sys2Proof.Machine

/-!
Issue, collision, completion and reset (spec 70_reset_and_hazards.md). A CMD write is an issue while the engine is idle
and a collision while it is busy (R244, R245); the completion step of a busy engine ends the command in flight (R246,
R247), on its snapshot and not on the live operand registers; a reset event restores the reset values (R240, R241).
-/

namespace Sys2Proof.Machine

variable {s t : State}

/-! ### CMD writes -/

theorem State.writeWord_cmd_of_idle (hb : s.busy = false) (v : Word) : s.writeWord 0x000 v = s.issue v := by
  have hcmd : s.writeWord 0x000 v = s.writeCmd v := rfl
  simp [hcmd, State.writeCmd, hb]

theorem State.writeWord_cmd_of_busy (hb : s.busy = true) (v : Word) :
    s.writeWord 0x000 v = s.latchFault .busyCollision := by
  have hcmd : s.writeWord 0x000 v = s.writeCmd v := rfl
  simp [hcmd, State.writeCmd, hb]

/-- No host write reaches the command in flight (spec R244). -/
theorem State.writeWord_keeps_command (hb : s.busy = true) (offset : Nat) (v : Word) :
    (s.writeWord offset v).latched = s.latched ∧ (s.writeWord offset v).busy = true := by
  obtain h | ⟨r, -, -, h⟩ | ⟨-, hidle, -⟩ | ⟨-, -, h⟩ := s.writeWord_cases offset v
  · simp [h, hb]
  · simp [h, hb]
  · simp [hb] at hidle
  · simp [h, hb]

/-- The host's step that performs a CMD write. -/
theorem step_cmdWrite {rest : List HostOp} {ts : List Turn} {v : Word} (ht : s.HostNext ts)
    (hp : s.program = .write 4 0x000 v :: rest) :
    step s = .next (((s.setTurns ts).setProgram rest).writeWord 0x000 v) := by
  simp [step_host ht, hostMove, hp, accessInInterface]

/-- Settles O7: an idle engine's CMD write is an issue, and a busy engine keeps its command through every write. -/
theorem cmdWriteIssuesTheCommand : Obligations.CmdWriteIssuesTheCommand := by
  intro s v hb
  rw [State.writeWord_cmd_of_idle hb]
  refine ⟨rfl, fun rest ts ht hp => ?_, State.writeWord_keeps_command (s := s.issue v) rfl⟩
  rw [step_cmdWrite ht hp, State.writeWord_cmd_of_idle (s := (s.setTurns ts).setProgram rest) hb]
  rfl

/-- A collision leaves the engine faulted, by its own code or an earlier one (spec R245). -/
theorem State.latchFault_fault_ne_noFault {c : FaultCode} (hc : c ≠ .noFault) :
    (s.latchFault c).fault ≠ .noFault := by
  rw [State.latchFault_fault]
  split
  · exact hc
  · assumption

/-- Settles O8: a busy engine's CMD write latches the fault, and the faulted engine refuses the command in flight. -/
theorem cmdWriteWhileBusyCollides : Obligations.CmdWriteWhileBusyCollides := by
  intro s l v hb hl
  rw [State.writeWord_cmd_of_busy hb]
  refine ⟨rfl, fun rest ts ht hp => ?_, fun ts ht => ?_⟩
  · rw [step_cmdWrite (.inr ht) hp, State.writeWord_cmd_of_busy (s := (s.setTurns ts).setProgram rest) hb]
    rfl
  · exact step_of_faulted (s := s.latchFault .busyCollision) hb hl ht (State.latchFault_fault_ne_noFault (by decide))

/-! ### Completion -/

/-- Settles O6: the completion step of a legal word. -/
theorem stepRunsTheDecodedCommand : Obligations.StepRunsTheDecodedCommand :=
  fun _ _ _ _ hb hl ht hd _ => step_of_command hb hl ht hd

/-- Every outcome of a completion leaves a result and ends the command in flight (spec R246). -/
theorem State.CompletesTo.ends (h : s.CompletesTo t) :
    t.busy = false ∧ t.latched = none ∧ t.result ≠ .none ∧ t.turns = s.turns := by
  cases h with
  | result _ _ _ hr hb hl ht =>
    refine ⟨hb, hl, ?_, ht⟩
    obtain hr | hr | hr := hr <;> simp [hr]
  | raised => exact ⟨rfl, rfl, nofun, rfl⟩
  | refused => exact ⟨rfl, rfl, nofun, rfl⟩

/-- Settles O9: a completed command had a snapshot, and every outcome drops it and BUSY. -/
theorem completionClearsBusyAndSnapshot : Obligations.CompletionClearsBusyAndSnapshot := by
  intro i s t h
  obtain ⟨l, hl, hc⟩ := exec_completed h
  obtain ⟨hb, hlt, -, -⟩ := hc.completesTo.ends
  exact ⟨hb, hlt, by simp [hl]⟩

/-- Settles O60: the completion step of a sound state goes on, and every outcome ends the command. -/
theorem aBusyEngineCompletesAtItsMove : Obligations.ABusyEngineCompletesAtItsMove := by
  intro s ts hi hb ht
  obtain ⟨t, h⟩ := hi.step_next_of_busy hb ht
  obtain ⟨hbt, -, hr, hts⟩ := (step_completesTo hb ht h).ends
  exact ⟨t, h, hbt, hr, hts⟩

/-! ### The live operand registers -/

/-- The outcome with the operand registers of its next state, if there is one, replaced by `o`. -/
def outcomeWithOperands (o : Operands) : Host.Outcome State Fault Refusal → Host.Outcome State Fault Refusal
  | .next t => .next (t.setOperands o)
  | .fault f => .fault f
  | .refused r => .refused r

/-- The frame of the commands does not read the live operand registers, so a command does not where its rule does
not. -/
theorem State.command_setOperands {o : Operands} {rule rule' : Snapshot → Host.Outcome State Fault Refusal}
    (h : ∀ l, rule' l = outcomeWithOperands o (rule l)) :
    (s.setOperands o).command rule' = outcomeWithOperands o (s.command rule) := by
  cases hl : s.latched with
  | none => simp [State.command, hl, outcomeWithOperands]
  | some l =>
    by_cases hf : s.fault = .noFault
    · rw [State.command_eq_rule hl hf, State.command_eq_rule (s := s.setOperands o) hl hf, h]
    · rw [State.command_eq_refuse hl hf, State.command_eq_refuse (s := s.setOperands o) hl hf]
      rfl

theorem State.slotMatches_setOperands (s : State) (o : Operands) : (s.setOperands o).slotMatches = s.slotMatches := rfl

/-- A check on either side of the replacement. -/
theorem ite_eq_outcomeWithOperands {o : Operands} {p : Prop} [Decidable p]
    {x x' y y' : Host.Outcome State Fault Refusal}
    (hx : x' = outcomeWithOperands o x) (hy : y' = outcomeWithOperands o y) :
    (if p then x' else y') = outcomeWithOperands o (if p then x else y) := by
  rw [hx, hy, apply_ite (outcomeWithOperands o)]

/-- A command's completion carries the live operand registers along unread (spec R244): each check and each answer
reads the snapshot and the other fields. -/
theorem exec_setOperands (i : Instr) (s : State) (o : Operands) :
    exec i (s.setOperands o) = outcomeWithOperands o (exec i s) := by
  cases i with
  | create =>
    exact State.command_setOperands fun l =>
      ite_eq_outcomeWithOperands rfl (ite_eq_outcomeWithOperands rfl (ite_eq_outcomeWithOperands rfl rfl))
  | destroy => exact State.command_setOperands fun l => ite_eq_outcomeWithOperands rfl rfl
  | lookup l3 =>
    refine State.command_setOperands fun l => ite_eq_outcomeWithOperands rfl (ite_eq_outcomeWithOperands rfl ?_)
    dsimp only [State.slotMatches_setOperands, State.chainAt_setOperands, State.setOperands_params,
      State.setOperands_bucketCount]
    cases (s.chainAt (bucketOf s.params (l.operands.tuple l3) s.bucketCount).toNat).find?
      (s.slotMatches (l.operands.tuple l3)) <;> rfl
  | createFlow l3 flags =>
    exact State.command_setOperands fun l =>
      ite_eq_outcomeWithOperands rfl (ite_eq_outcomeWithOperands rfl
        (ite_eq_outcomeWithOperands rfl (ite_eq_outcomeWithOperands rfl rfl)))
  | updateFlow flags =>
    refine State.command_setOperands fun l => ite_eq_outcomeWithOperands rfl (ite_eq_outcomeWithOperands rfl ?_)
    rw [State.flowAt_setOperands]
    cases s.flowAt l.operands.handleIn.toNat with
    | none => rfl
    | some f => dsimp only; cases nextState f.state flags <;> rfl

/-- Settles O10: both kinds of outcome through `exec_setOperands`. -/
theorem commandsDoNotReadLiveOperands : Obligations.CommandsDoNotReadLiveOperands :=
  fun i s o => ⟨fun _ h => by rw [exec_setOperands, h]; rfl, fun _ h => by rw [exec_setOperands, h]; rfl⟩

/-! ### Reset events -/

theorem step_reset {ts : List Turn} (ht : s.turns = .reset :: ts) : step s = .next (s.setTurns ts).resetEvent := by
  simp only [step, nextMove, ht]

/-- STATUS shows no fault, no result, no index and an idle engine (spec 10_state.md R47). -/
theorem State.status_resetEvent (s : State) : s.resetEvent.status = 0 := by
  simp [State.status, State.faulted, FaultCode.code, ResultCode.code]

/-- Settles O53: a reset turn is a reset event. -/
theorem aResetEventRestoresTheResetState : Obligations.AResetEventRestoresTheResetState :=
  fun s ts ht => ⟨(s.setTurns ts).resetEvent, step_reset ht, rfl,
    (State.readWord_regOffset _ .status).trans (State.status_resetEvent _), rfl⟩

end Sys2Proof.Machine
